-- ==== Sys2Proof/Word.lean ====
section
/-! DEFINITION. The words of the block: the 32-bit event word and host word, the byte (spec/00_scope.md R14). -/

namespace Sys2Proof

/-- A 32-bit word, bit 31 the most significant (R14): an event word (R70) or a host word (R40 to R46). -/
abbrev Word := BitVec 32

/-- An unsigned 8-bit element: a level, a table entry, a synthesizer register (R50). -/
abbrev Byte := BitVec 8

end Sys2Proof
end

