-- ==== Sys2Proof/Syntax.lean ====
section
/-! DEFINITION. The event words as syntax: one constructor per row of spec/opcode_table.json (spec/30_encoding.md R72 to R78),
and the named values of the configuration fields (R73). -/

namespace Sys2Proof

/-- The five operating modes (R7, R73). -/
inductive Mode where
  | usb | lsb | am | fm | cw
  deriving DecidableEq, Repr

/-- The three bandwidth classes (R7, R73): full circle, half, quarter. -/
inductive Bandwidth where
  | full | half | quarter
  deriving DecidableEq, Repr

/-- The eight operations of the opcode map (R82), with the fields of their format (R71). The fields of `CFG` are the raw bits:
a reserved mode or bandwidth is still a `CFG` word, and R181 says what it does. -/
inductive Instr where
  /-- `NOP` (R72). -/
  | nop
  /-- `CFG` (R73). -/
  | cfg (mode : BitVec 3) (bw : BitVec 2) (drive : BitVec 4) (voxThr : BitVec 16)
  /-- `PTT_OFF` (R74). -/
  | pttOff
  /-- `PTT_ON` (R74). -/
  | pttOn
  /-- `TICK` (R75), with the 16 bits of the signed sample. -/
  | tick (sample : BitVec 16)
  /-- `RD` (R76). -/
  | rd (idx : BitVec 4)
  /-- `BERR` (R77). -/
  | berr
  /-- `RESET` (R78). -/
  | reset
  deriving DecidableEq, Repr

end Sys2Proof
end

