-- ==== Sys2Proof/WellFormed.lean ====
section
/-! DEFINITION. Which instructions stand for a legal event word (spec/30_encoding.md R80). Only `CFG` has a check: every other
operation is legal whatever its fields hold. An ill-formed `CFG` still decodes and still has a meaning: it sets `err` (R181). -/

namespace Sys2Proof

/-- R73, R80 (2): mode codes 0 to 4 are legal, 5 to 7 reserved. -/
def modeLegal (mode : BitVec 3) : Bool := decide (mode.toNat ≤ 4)

/-- R73, R80 (3): bandwidth codes 0 to 2 are legal, 3 reserved. -/
def bwLegal (bw : BitVec 2) : Bool := decide (bw.toNat ≠ 3)

/-- The word that `i` stands for is legal (R80). -/
def Instr.wellFormed : Instr → Bool
  | .nop => true
  | .cfg mode bw _ _ => modeLegal mode && bwLegal bw
  | .pttOff => true
  | .pttOn => true
  | .tick _ => true
  | .rd _ => true
  | .berr => true
  | .reset => true

end Sys2Proof
end

