-- ==== Sys2Proof/Decode.lean ====
section
/-! DEFINITION. Event word formats: the decoder, total on all words (spec/30_encoding.md R70 to R83), and the encoder written from
the same formats. -/

namespace Sys2Proof

/-- Why a word is no operation of the opcode map. -/
inductive DecodeError where
  /-- The operation code is one of the nine reserved ones, 0x6 to 0xE (R80 (1)). -/
  | reservedOperation (op : BitVec 4)
  deriving DecidableEq, Repr

/-- The mode a code stands for (R73); none for the reserved codes 5, 6, 7. -/
def modeOfBits (b : BitVec 3) : Option Mode :=
  match b.toNat with
  | 0 => some .usb
  | 1 => some .lsb
  | 2 => some .am
  | 3 => some .fm
  | 4 => some .cw
  | _ => none

/-- The code of a mode (R73). -/
def modeToBits : Mode → BitVec 3
  | .usb => 0
  | .lsb => 1
  | .am => 2
  | .fm => 3
  | .cw => 4

/-- The bandwidth class a code stands for (R73); none for the reserved code 3. -/
def bwOfBits (b : BitVec 2) : Option Bandwidth :=
  match b.toNat with
  | 0 => some .full
  | 1 => some .half
  | 2 => some .quarter
  | _ => none

/-- The code of a bandwidth class (R73). -/
def bwToBits : Bandwidth → BitVec 2
  | .full => 0
  | .half => 1
  | .quarter => 2

/-- `w[lo+n-1:lo]` (R14). -/
def field (w : Word) (lo n : Nat) : BitVec n := w.extractLsb' lo n

/-- `op`, bits [31:28] (R70). -/
def opcode (w : Word) : BitVec 4 := field w 28 4

/-- The decoder (R71 to R79, R82). Payload bits outside the fields are not looked at (R79). -/
def decode (w : Word) : Except DecodeError Instr :=
  match (opcode w).toNat with
  | 0x0 => .ok .nop
  | 0x1 => .ok (.cfg (field w 0 3) (field w 3 2) (field w 5 4) (field w 9 16))
  | 0x2 => if field w 0 1 = 0 then .ok .pttOff else .ok .pttOn
  | 0x3 => .ok (.tick (field w 0 16))
  | 0x4 => .ok (.rd (field w 0 4))
  | 0x5 => .ok .berr
  | 0xF => .ok .reset
  | _ => .error (.reservedOperation (opcode w))

/-- The encoder (R71 to R78), ignored payload bits written as 0 (R79). -/
def encode : Instr → Word
  | .nop => 0x0#4 ++ 0#28
  | .cfg mode bw drive voxThr => 0x1#4 ++ 0#3 ++ voxThr ++ drive ++ bw ++ mode
  | .pttOff => 0x2#4 ++ 0#27 ++ 0#1
  | .pttOn => 0x2#4 ++ 0#27 ++ 1#1
  | .tick sample => 0x3#4 ++ 0#12 ++ sample
  | .rd idx => 0x4#4 ++ 0#24 ++ idx
  | .berr => 0x5#4 ++ 0#28
  | .reset => 0xF#4 ++ 0#28

/-- The match value of the instruction's row of spec/opcode_table.json. -/
def tableMatch : Instr → Word
  | .nop => 0x00000000
  | .cfg .. => 0x10000000
  | .pttOff => 0x20000000
  | .pttOn => 0x20000001
  | .tick _ => 0x30000000
  | .rd _ => 0x40000000
  | .berr => 0x50000000
  | .reset => 0xF0000000

/-- The mask of the instruction's row of spec/opcode_table.json. -/
def tableMask : Instr → Word
  | .pttOff => 0xF0000001
  | .pttOn => 0xF0000001
  | .nop => 0xF0000000
  | .cfg .. => 0xF0000000
  | .tick _ => 0xF0000000
  | .rd _ => 0xF0000000
  | .berr => 0xF0000000
  | .reset => 0xF0000000

/-- The bits of a word that the instruction's format reads (R71): the operation code and the fields. -/
def formatMask : Instr → Word
  | .nop => 0xF0000000
  | .cfg .. => 0xF1FFFFFF
  | .pttOff => 0xF0000001
  | .pttOn => 0xF0000001
  | .tick _ => 0xF000FFFF
  | .rd _ => 0xF000000F
  | .berr => 0xF0000000
  | .reset => 0xF0000000

/-- The instruction read from `nbits` bits numbered as spec/opcode_table.json numbers them; the bits above are 0. An event word
is one 32-bit value (R70), so nothing is laid out in bytes (R52). -/
def decodeTableWord (nbits w : Nat) : Option Instr :=
  if nbits ≤ 32 then
    match decode (BitVec.ofNat 32 (w % 2 ^ nbits)) with
    | .ok i => some i
    | .error _ => none
  else none

end Sys2Proof
end

