-- ==== Sys2Proof/Config.lean ====
section
/-! DEFINITION. The parameter record `P` of spec/00_scope.md R5, its constraints, its default `P0`, and the two opaque constants
the spec leaves free. -/

namespace Sys2Proof

/-- The parameter record `P` (R5), fixed for a run. `OSC_DIV` is fixed (`oscDiv`); `RegCalc` is `Config.regByte`. -/
structure Params where
  /-- `UA`: unit-angle ticks in one full circle. -/
  ua : Nat
  /-- `F_S`: the sample rate, used only to form `RATIO`. -/
  fs : Nat
  /-- `HANG_MAX`: maximum of the hang counter. -/
  hangMax : Nat
  /-- `HPF_K`: weight of the old average in the slow average. -/
  hpfK : Nat
  /-- `H_C0`, `H_C2`, `H_C4`, `H_C6`: Hilbert tap weights. -/
  hC0 : Nat
  hC2 : Nat
  hC4 : Nat
  hC6 : Nat
  /-- `H_DIV`: Hilbert divisor. -/
  hDiv : Nat
  /-- `ATAN_DEN`: divisor forming the second arctangent coefficient. -/
  atanDen : Nat
  /-- `RAMP[0..30]`: the raised-cosine weights. -/
  ramp : Vector Byte 31
  /-- `MIN_LEVEL`, `MAX_LEVEL`: ends of the output level range. -/
  minLevel : Byte
  maxLevel : Byte
  /-- `LUT[0..255]`: amplitude to output level. -/
  lut : Vector Byte 256
  /-- `AM_BASE`: carrier bias added in AM. -/
  amBase : Nat
  /-- `OSC_ALPHA`: oscillator coefficient numerator. -/
  oscAlpha : Nat
  /-- `OSC_INIT_SIN`, `OSC_INIT_COS`: oscillator reset values, signed 8 bits. -/
  oscInitSin : BitVec 8
  oscInitCos : BitVec 8
  /-- `ST_SHIFT`: right shift of the side-tone sample. -/
  stShift : Nat
  /-- `SYNTH_NREGS`: length in bytes of the synthesizer register buffer. -/
  synthNregs : Nat
  deriving DecidableEq, Repr

/-- `OSC_DIV`, fixed at 127 (R5). -/
def oscDiv : Nat := 127

/-- The constraints of the table of R5, with R120 for `LUT` and R127 for `RAMP`. -/
structure Params.Admissible (P : Params) : Prop where
  ua_range : 22 ≤ P.ua ∧ P.ua ≤ 32767
  fs_range : P.ua ≤ P.fs
  hangMax_range : 2 ≤ P.hangMax ∧ P.hangMax ≤ 65535
  hpfK_range : 1 ≤ P.hpfK ∧ P.hpfK ≤ 255
  taps_sum : P.hC0 + P.hC2 + P.hC4 + P.hC6 ≤ 255
  hDiv_pos : 1 ≤ P.hDiv
  atanDen_min : 9 ≤ P.atanDen
  ramp_top : P.ramp.get 0 = 255
  ramp_decreasing : ∀ k : Fin 30, (P.ramp.get k.succ).toNat < (P.ramp.get k.castSucc).toNat
  levels_order : P.minLevel.toNat ≤ P.maxLevel.toNat
  lut_low : P.lut.get 0 = P.minLevel
  lut_high : P.lut.get 255 = P.maxLevel
  lut_monotone : ∀ a : Fin 255, (P.lut.get a.castSucc).toNat ≤ (P.lut.get a.succ).toNat
  amBase_max : P.amBase ≤ 255
  oscAlpha_max : P.oscAlpha ≤ 127
  stShift_max : P.stShift ≤ 7
  synthNregs_range : 1 ≤ P.synthNregs ∧ P.synthNregs ≤ 255

/-- R121: entry `a` of the linear table between two levels. -/
def linearLevel (lo hi : Nat) (a : Nat) : Byte := BitVec.ofNat 8 (lo + a * (hi - lo) / 255)

/-- R121: the linear amplitude table between two levels. -/
def linearLut (lo hi : Nat) : Vector Byte 256 := ⟨⟨(List.range 256).map (linearLevel lo hi)⟩, by simp⟩

/-- R127: the default weights, `floor(255 * cos^2(pi * k / 64))`. -/
def raisedCosine : Vector Byte 31 :=
  #v[255, 254, 252, 249, 245, 239, 233, 226, 217, 208, 198, 187, 176, 164, 152, 139,
     127, 115, 102, 90, 78, 67, 56, 46, 37, 28, 21, 15, 9, 5, 2]

/-- The parameter set `P0` (R5): the defaults of the table. -/
def Params.p0 : Params where
  ua := 600
  fs := 4800
  hangMax := 255
  hpfK := 2
  hC0 := 2
  hC2 := 8
  hC4 := 21
  hC6 := 16
  hDiv := 64
  atanDen := 22
  ramp := raisedCosine
  minLevel := 0
  maxLevel := 255
  lut := linearLut 0 255
  amBase := 32
  oscAlpha := 99
  oscInitSin := 0
  oscInitCos := 112
  stShift := 0
  synthNregs := 8

/-- The parameter set `P1` of the test vectors (R121): `P0` with the levels 20 and 200. -/
def Params.p1 : Params :=
  { Params.p0 with minLevel := 20, maxLevel := 200, lut := linearLut 20 200 }

/-- `RegCalc` (R160), uninterpreted: byte `k` of the registers for a signed 32-bit frequency delta. It depends on the delta and
on constants of the run only. Free value, log entry 4: nothing can be proved of its value. -/
opaque Config.regByte (P : Params) (df : BitVec 32) (k : Nat) : Byte

/-- What `pend_df` holds when the exact delta of R140 does not fit its signed 32 bits, which is possible only after a wrap of
`prev_phase` (R141). The spec states no result. Free value (DESIGN CHOICE), log entry 5. -/
opaque Config.freeDf (n : Nat) : BitVec 32

end Sys2Proof
end

