-- ==== Sys2Proof/Machine/Derived.lean ====
section
/-! DEFINITION. The constants derived from the parameter record (spec/00_scope.md R6) and the register computation
(spec/45_synth_driver.md R160). -/

namespace Sys2Proof.Machine

/-- `RATIO = F_S div UA` (R6). -/
def ratio (P : Params) : Nat := P.fs / P.ua

/-- `ATAN_A = UA div 8`, 45 degrees in ticks (R6). -/
def atanA (P : Params) : Nat := P.ua / 8

/-- `ATAN_B = UA div ATAN_DEN` (R6). -/
def atanB (P : Params) : Nat := P.ua / P.atanDen

/-- `UA_HALF` (R6). -/
def uaHalf (P : Params) : Nat := P.ua / 2

/-- `UA_QUARTER` (R6). -/
def uaQuarter (P : Params) : Nat := P.ua / 4

/-- `MAX_DP(bw)` (R6). -/
def maxDp (P : Params) : Bandwidth → Nat
  | .full => P.ua
  | .half => uaHalf P
  | .quarter => uaQuarter P

/-- `RegCalc(df)`: `SYNTH_NREGS` bytes, index 0 first (R160, R53). -/
def regCalc (P : Params) (df : BitVec 32) : List Byte :=
  (List.range P.synthNregs).map (Config.regByte P df)

end Sys2Proof.Machine
end

