-- ==== Sys2Proof/Machine/State.lean ====
section
/-! DEFINITION. The state of the block as plain data (spec/10_state.md R20 to R39) and the state after reset (R48). The last four
fields are the model's own: log entries 1, 2, 3 and 5. -/

namespace Sys2Proof.Machine

/-- The block raises no exception and never stops (spec/00_scope.md R18, spec/60_exceptions.md R200): there is no fault, so no
constructor. Nothing raises one; safe. -/
inductive Fault : Type
  deriving DecidableEq, Repr

/-- Why a step has no meaning. -/
inductive Refusal where
  /-- Raised only by an arm of `exec` whose instruction has no meaning yet; no arm does. Safe. -/
  | notModelled (mnemonic : String)
  deriving DecidableEq, Repr

/-- The two states of the transmit machine (R21). -/
inductive Fsm where
  | idle | transmit
  deriving DecidableEq, Repr

/-- The published configuration (R23). `mode` is held as its three bits, so that the unreachable arm of R180 can be stated
(log entry 7). -/
structure Cfg where
  mode : BitVec 3
  bw : Bandwidth
  drive : BitVec 4
  voxThr : BitVec 16
  deriving DecidableEq, Repr

/-- The Hilbert delay line `v[0..14]`, 15 signed 18-bit entries, `v14` the newest (R27). -/
structure DelayLine where
  v0 : BitVec 18
  v1 : BitVec 18
  v2 : BitVec 18
  v3 : BitVec 18
  v4 : BitVec 18
  v5 : BitVec 18
  v6 : BitVec 18
  v7 : BitVec 18
  v8 : BitVec 18
  v9 : BitVec 18
  v10 : BitVec 18
  v11 : BitVec 18
  v12 : BitVec 18
  v13 : BitVec 18
  v14 : BitVec 18
  deriving DecidableEq, Repr

/-- The line of 15 zeros (R48). -/
def DelayLine.zero : DelayLine := ⟨0, 0, 0, 0, 0, 0, 0, 0, 0, 0, 0, 0, 0, 0, 0⟩

/-- The entries in index order, `v[0]` first. -/
def DelayLine.toList (d : DelayLine) : List (BitVec 18) :=
  [d.v0, d.v1, d.v2, d.v3, d.v4, d.v5, d.v6, d.v7, d.v8, d.v9, d.v10, d.v11, d.v12, d.v13, d.v14]

/-- The five output events (R17). -/
inductive OutEvent where
  | bulkWrite (bytes : List Byte)
  | ampWrite (level : Byte)
  | sideToneWrite (level : Byte)
  | carrierEnableWrite (enable : Bool)
  | rdData (word : Word)
  deriving DecidableEq, Repr

/-- The whole state of the block, and the model's own fields. -/
structure State where
  /-- R21. -/
  fsm : Fsm
  /-- R23. -/
  cfg : Cfg
  /-- R24, sticky. -/
  err : Bool
  /-- R25, signed 8 bits. -/
  oscSin : BitVec 8
  /-- R25, signed 8 bits. -/
  oscCos : BitVec 8
  /-- R26, signed 16 bits. -/
  hpfDc : BitVec 16
  /-- R27. -/
  v : DelayLine
  /-- R28, signed 32 bits. -/
  prevPhase : BitVec 32
  /-- R29, unsigned 16 bits. -/
  gateCnt : BitVec 16
  /-- R30, unsigned 5 bits. -/
  rampIdx : BitVec 5
  /-- R31. -/
  carEn : Bool
  /-- R32. -/
  carReg : Bool
  /-- R34. -/
  pendAmp : Byte
  /-- R35, signed 32 bits. -/
  pendDf : BitVec 32
  /-- R36, `SYNTH_NREGS` bytes, index 0 first. -/
  synthRegs : List Byte
  /-- R37. -/
  ampOut : Byte
  /-- R38. -/
  stOut : Byte
  /-- R39, unsigned 16 bits, saturating. -/
  busErr : BitVec 16
  /-- MODEL's own: the parameter record of the run (R5, R47), which no event writes. Log entry 3. -/
  params : Params
  /-- MODEL's own: the event words delivered and not yet taken; each inner list is one instant (R62). Log entry 1. -/
  inputs : List (List Word)
  /-- MODEL's own: the ordered output trace of the latest event (R17). Log entry 2. -/
  out : List OutEvent
  /-- MODEL's own: the number of free values used so far. Log entry 5. -/
  freeCtr : Nat
  deriving DecidableEq, Repr

/-- The machine right after reset (R48), with the parameter set P0 and no event delivered yet. -/
def State.reset : State where
  fsm := .idle
  cfg := { mode := 0, bw := .full, drive := 0, voxThr := 0 }
  err := false
  oscSin := Params.p0.oscInitSin
  oscCos := Params.p0.oscInitCos
  hpfDc := 0
  v := DelayLine.zero
  prevPhase := 0
  gateCnt := 0
  rampIdx := 31
  carEn := false
  carReg := false
  pendAmp := 0
  pendDf := 0
  synthRegs := regCalc Params.p0 0
  ampOut := 0
  stOut := 128
  busErr := 0
  params := Params.p0
  inputs := []
  out := []
  freeCtr := 0

end Sys2Proof.Machine
end

