-- ==== Sys2Proof/Machine/Operands.lean ====
section
/-! DEFINITION. The integer operators of spec/00_scope.md R8 to R13, and how a register or a field is read as an integer and an
integer stored in a register. Expressions are evaluated in the integers; only stores have a width (R8). -/

namespace Sys2Proof.Machine

/-- `tdiv(a, b)`: the quotient truncated toward zero (R9). -/
def tdiv (a : Int) (b : Nat) : Int := a.sign * ((a.natAbs / b : Nat) : Int)

/-- `wrapN(v)`: two's-complement wrap to `n` bits (R11). -/
def wrapN (n : Nat) (v : Int) : Int := Int.bmod v (2 ^ n)

/-- `clamp(v, lo, hi)` (R12). -/
def clamp (v lo hi : Int) : Int := max lo (min hi v)

/-- `a << n`: never wraps (R13). -/
def shl (a : Int) (n : Nat) : Int := a * 2 ^ n

/-- `a >>a n`: the floor of `a / 2^n` (R13). -/
def sar (a : Int) (n : Nat) : Int := Int.fdiv a (2 ^ n)

/-- The store of an integer in a signed or unsigned register of `n` bits: exact where the value fits, which each rule that writes
a register shows (R8). -/
def store (n : Nat) (v : Int) : BitVec n := BitVec.ofInt n v

/-- A value fits a signed register of `n` bits (R8). -/
def fitsSigned (n : Nat) (v : Int) : Bool := decide (-2 ^ (n - 1) ≤ v ∧ v < 2 ^ (n - 1))

/-- `min(255, a)` as a table index (R122, R123). -/
def clipIndex (a : Nat) : Fin 256 := ⟨min 255 a, by omega⟩

/-- `clamp(a, 0, 255)` as a table index (R111). -/
def clampIndex (a : Int) : Fin 256 := ⟨(clamp a 0 255).toNat, by unfold clamp; omega⟩

/-- `LUT[a]` (R50, R54): the index type holds nothing out of range. -/
def lutRead (P : Params) (a : Fin 256) : Byte := P.lut.get a

/-- `RAMP[k]` (R50, R54). -/
def rampRead (P : Params) (k : Fin 31) : Byte := P.ramp.get k

/-- The sample of a `TICK` word: `sext_16` of its field (R75, R11). -/
def sampleValue (sample : BitVec 16) : Int := sample.toInt

end Sys2Proof.Machine
end

