-- ==== Sys2Proof/Machine/Flags.lean ====
section
/-! DEFINITION. The single-bit conditions (spec/10_state.md R33): the derived booleans `trig` and `gate_on`, and the
carrier-enable observable. -/

namespace Sys2Proof.Machine

/-- `cfg.mode` in {USB, LSB} (R150, R171). -/
def isSsb (mode : BitVec 3) : Bool := mode == modeToBits .usb || mode == modeToBits .lsb

/-- `trig`: strict and unsigned (R105). -/
def voxTrigger (ampRaw : Nat) (voxThr : BitVec 16) : Bool := decide (voxThr.toNat < ampRaw)

/-- `gate_on = (gate_cnt > 0)` (R33, R145). -/
def gateOn (gateCnt : BitVec 16) : Bool := decide (0 < gateCnt.toNat)

/-- `ce_new` (R150); 0 in the default arm (R180). -/
def ceNew (mode : Option Mode) (gateCnt : BitVec 16) : Bool :=
  match mode with
  | some .usb => gateOn gateCnt
  | some .lsb => gateOn gateCnt
  | some .am => true
  | some .fm => true
  | some .cw => true
  | none => false

end Sys2Proof.Machine
end

