-- ==== Sys2Proof/Machine/Ops.lean ====
section
/-! DEFINITION. The named operations over the state: the output events, each with the register that shadows it, the resets of
parts of the state, and what an illegal word does. The block takes no exception and returns from none (spec/60_exceptions.md R200,
R205, R206): `takeIllegalWord` is all that stands in the place of one. -/

namespace Sys2Proof.Machine

/-- An event begins with the empty trace (R17). -/
def beginEvent (s : State) : State := { s with out := [] }

/-- `emit E(v)`: append to the trace of the current event (R17). -/
def emit (e : OutEvent) (s : State) : State := { s with out := s.out ++ [e] }

/-- `emit AmpWrite(v); amp_out <- v` (R37). -/
def ampWrite (level : Byte) (s : State) : State :=
  { emit (.ampWrite level) s with ampOut := level }

/-- `emit CarrierEnableWrite(b); car_reg <- b` (R32, R164). -/
def carrierEnableWrite (enable : Bool) (s : State) : State :=
  { emit (.carrierEnableWrite enable) s with carReg := enable }

/-- `emit SideToneWrite(v); st_out <- v` (R38, R93). -/
def sideToneWrite (level : Byte) (s : State) : State :=
  { emit (.sideToneWrite level) s with stOut := level }

/-- `SYNTH_XFER`: `emit BulkWrite(synth_regs)`, the bytes in index order (R162, R53). -/
def synthXfer (s : State) : State := emit (.bulkWrite s.synthRegs) s

/-- `SYNTH_CALC`: `synth_regs <- RegCalc(pend_df)` (R161). -/
def synthCalc (s : State) : State := { s with synthRegs := regCalc s.params s.pendDf }

/-- Step 2 of a TRANSMIT tick: the pending amplitude goes to the output (R174). -/
def ampCommit (s : State) : State := ampWrite s.pendAmp s

/-- `gate_cnt <- 0; ramp_idx <- 31` (R131, R152). -/
def rearm (s : State) : State := { s with gateCnt := 0, rampIdx := 31 }

/-- `pend_amp <- 0; pend_df <- 0; synth_regs <- RegCalc(0)` (R166, R172). -/
def clearPending (s : State) : State :=
  { s with pendAmp := 0, pendDf := 0, synthRegs := regCalc s.params 0 }

/-- `pend_amp <- level`. -/
def setPendAmp (level : Byte) (s : State) : State := { s with pendAmp := level }

/-- `pend_df <- df` for a delta that fits the register (R35). -/
def setPendDf (df : Int) (s : State) : State := { s with pendDf := store 32 df }

/-- `pend_df <- df` for the limiter's delta: exact where it fits the signed 32-bit register, else a free value, since the spec
states no result there (R140, R141; DESIGN CHOICE, log entry 5). -/
def storeDelta (df : Int) (s : State) : State :=
  if fitsSigned 32 df then setPendDf df s
  else { s with pendDf := Config.freeDf s.freeCtr, freeCtr := s.freeCtr + 1 }

/-- `CE_EVAL`: the enable register is written when the observable changes, never every tick (R150). -/
def ceEval (ce : Bool) (s : State) : State :=
  { (if ce = s.carEn then s else carrierEnableWrite ce s) with carEn := ce }

/-- What an illegal word does: `err <- 1` and nothing else (R80, R185, R201, R205). -/
def takeIllegalWord (s : State) : State := { beginEvent s with err := true }

/-- Every register at its reset value (R170, R48); the model's own fields other than the trace are no registers (log entry 9). -/
def resetRegisters (s : State) : State :=
  { s with
    fsm := .idle
    cfg := { mode := 0, bw := .full, drive := 0, voxThr := 0 }
    err := false
    busErr := 0
    oscSin := s.params.oscInitSin
    oscCos := s.params.oscInitCos
    hpfDc := 0
    v := DelayLine.zero
    prevPhase := 0
    gateCnt := 0
    rampIdx := 31
    carEn := false
    carReg := false
    pendAmp := 0
    pendDf := 0
    synthRegs := regCalc s.params 0
    ampOut := 0
    stOut := 128 }

end Sys2Proof.Machine
end

