-- ==== Sys2Proof/Machine/HostOps.lean ====
section
/-! DEFINITION. The host operations `CFG`, `RD`, `NOP` and the bus monitor's `BERR` (spec/46_transmit_tick.md R181 to R184), and the
host register map (spec/10_state.md R40 to R46). -/

namespace Sys2Proof.Machine

/-- A bit as a one-bit field. -/
def bit (b : Bool) : BitVec 1 := BitVec.ofBool b

/-- `fsm` as its bit: IDLE 0, TRANSMIT 1 (R21). -/
def fsmBit (f : Fsm) : BitVec 1 :=
  match f with
  | .idle => 0
  | .transmit => 1

/-- `HOSTREG[0] = CFG` (R40). -/
def hostCfg (s : State) : Word :=
  0#7 ++ s.cfg.voxThr ++ s.cfg.drive ++ bwToBits s.cfg.bw ++ s.cfg.mode

/-- `HOSTREG[1] = STATUS` (R41). -/
def hostStatus (s : State) : Word :=
  s.gateCnt ++ 0#3 ++ s.rampIdx ++ 0#4 ++ bit s.err ++ bit s.carReg ++ bit s.carEn ++ fsmBit s.fsm

/-- `HOSTREG[2] = BUSERR` (R42). -/
def hostBusErr (s : State) : Word := 0#16 ++ s.busErr

/-- `HOSTREG[3] = AMP` (R43). -/
def hostAmp (s : State) : Word := 0#8 ++ s.stOut ++ s.pendAmp ++ s.ampOut

/-- `HOSTREG[6] = OSC` (R46). -/
def hostOsc (s : State) : Word := 0#16 ++ s.oscCos ++ s.oscSin

/-- `HOSTREG[idx]` (R59): `DF` (R44) and `PHASE` (R45) are the registers' two's-complement words; 7 to 15 read 0. -/
def hostReg (s : State) (idx : BitVec 4) : Word :=
  match idx.toNat with
  | 0 => hostCfg s
  | 1 => hostStatus s
  | 2 => hostBusErr s
  | 3 => hostAmp s
  | 4 => s.pendDf
  | 5 => s.prevPhase
  | 6 => hostOsc s
  | _ => 0

/-- `bus_err <- min(65535, bus_err + 1)` (R183). -/
def countBusError (s : State) : State :=
  { s with busErr := BitVec.ofNat 16 (min 65535 (s.busErr.toNat + 1)) }

/-- `CFG` (R181): the whole record at once, or, with a reserved field, an illegal word that leaves `cfg` as it was (R80). -/
def execCfg (mode : BitVec 3) (bw : BitVec 2) (drive : BitVec 4) (voxThr : BitVec 16) (s : State) :
    Host.Outcome State Fault Refusal :=
  match modeOfBits mode, bwOfBits bw with
  | some _, some b => .next { beginEvent s with cfg := { mode := mode, bw := b, drive := drive, voxThr := voxThr } }
  | _, _ => .next (takeIllegalWord s)

/-- `RD` (R182): no state changes. -/
def execRd (idx : BitVec 4) (s : State) : Host.Outcome State Fault Refusal :=
  .next (emit (.rdData (hostReg s idx)) (beginEvent s))

/-- `BERR` (R183). -/
def execBerr (s : State) : Host.Outcome State Fault Refusal := .next (countBusError (beginEvent s))

/-- `NOP` (R184): no state change, the empty trace. -/
def execNop (s : State) : Host.Outcome State Fault Refusal := .next (beginEvent s)

end Sys2Proof.Machine
end

