-- ==== Sys2Proof/Machine/CarrierGate.lean ====
section
/-! DEFINITION. The VOX hang counter (spec/44_vox_carrier_gate.md). `CE_EVAL` (R150) stands in Machine/Ops.lean. -/

namespace Sys2Proof.Machine

/-- The next value of `gate_cnt` (R146). -/
def gateNext (hangMax : Nat) (trig : Bool) (cnt : BitVec 16) : BitVec 16 :=
  match trig with
  | true => if cnt = 0 then BitVec.ofNat 16 hangMax else BitVec.ofNat 16 (hangMax - 1)
  | false => if cnt = 0 then cnt else cnt - 1

/-- `GATE_STEP` (R146). -/
def gateStep (trig : Bool) (s : State) : State :=
  { s with gateCnt := gateNext s.params.hangMax trig s.gateCnt }

end Sys2Proof.Machine
end

