-- ==== Sys2Proof/Machine/EnvelopeShaper.lean ====
section
/-! DEFINITION. The amplitude shaper and the CW envelope ramp (spec/42_envelope_shaper.md). -/

namespace Sys2Proof.Machine

/-- `AMP_DRIVE`: `min(255, amp_raw << cfg.drive)`, the shift exact (R122). -/
def ampDrive (ampRaw : Nat) (drive : BitVec 4) : Fin 256 :=
  clipIndex (ampRaw * 2 ^ drive.toNat)

/-- `AMP_SSB`: the table, or 0 when the gate is off (R124). -/
def ampSsb (ampRaw : Nat) (s : State) : State :=
  setPendAmp (if gateOn s.gateCnt then lutRead s.params (ampDrive ampRaw s.cfg.drive) else 0) s

/-- `(w * LUT[255]) div 255`, the level of a ramp weight (R128). -/
def rampLevel (P : Params) (w : Nat) : Byte :=
  BitVec.ofNat 8 (w * (lutRead P 255).toNat / 255)

/-- The weight read at a ramp index (R128): `RAMP[ramp_idx - 1]`, or 255 once the ramp is fully open. -/
def rampWeight (P : Params) (idx : BitVec 5) : Nat :=
  if idx = 0 then 255 else (rampRead P ⟨idx.toNat - 1, by omega⟩).toNat

/-- The next ramp index: counts down to 0 and stays (R128). -/
def rampNext (idx : BitVec 5) : BitVec 5 := if idx = 0 then 0 else idx - 1

/-- `AMP_CW` (R128). -/
def ampCw (s : State) : State :=
  setPendAmp (rampLevel s.params (rampWeight s.params s.rampIdx))
    { s with rampIdx := rampNext s.rampIdx }

end Sys2Proof.Machine
end

