-- ==== Sys2Proof/Machine/PhaseRateLimiter.lean ====
section
/-! DEFINITION. The phase rate limiter (spec/43_phase_rate_limiter.md). -/

namespace Sys2Proof.Machine

/-- R136 and R138: the delta, with one full circle added if it is negative. -/
def prlNormalised (P : Params) (phase prev : Int) : Int :=
  if phase - prev < 0 then phase - prev + P.ua else phase - prev

/-- R139: the emitted delta. -/
def prlDelta (P : Params) (bw : Bandwidth) (phase prev : Int) : Int :=
  if (maxDp P bw : Int) < prlNormalised P phase prev then maxDp P bw else prlNormalised P phase prev

/-- R137 and R139: the remembered phase, less the residual that the clamp left. -/
def prlPrev (P : Params) (bw : Bandwidth) (phase prev : Int) : Int :=
  if (maxDp P bw : Int) < prlNormalised P phase prev then
    wrapN 32 (phase - (prlNormalised P phase prev - maxDp P bw))
  else phase

/-- R140: the frequency delta, positive in USB and negated in LSB. -/
def prlFrequency (P : Params) (mode : BitVec 3) (dp : Int) : Int :=
  if mode = modeToBits .usb then dp * ratio P else -(dp * ratio P)

/-- `PRL_STEP` (R136 to R140). -/
def prlStep (phase : Int) (s : State) : State :=
  let dp := prlDelta s.params s.cfg.bw phase s.prevPhase.toInt
  storeDelta (prlFrequency s.params s.cfg.mode dp)
    { s with prevPhase := store 32 (prlPrev s.params s.cfg.bw phase s.prevPhase.toInt) }

end Sys2Proof.Machine
end

