-- ==== Sys2Proof/Machine/ToneOscillator.lean ====
section
/-! DEFINITION. The recursive quadrature tone oscillator (spec/40_tone_oscillator.md). -/

namespace Sys2Proof.Machine

/-- The first line of `OSC_STEP` (R91): the new sine. -/
def oscSinNext (P : Params) (sin cos : Int) : Int :=
  wrapN 8 (sin + tdiv (P.oscAlpha * cos) oscDiv)

/-- The second line of `OSC_STEP` (R91), which uses the NEW sine. -/
def oscCosNext (P : Params) (sinNew cos : Int) : Int :=
  wrapN 8 (cos - tdiv (P.oscAlpha * sinNew) oscDiv)

/-- `OSC_STEP` (R91). -/
def oscStep (s : State) : State :=
  let sinNew := oscSinNext s.params s.oscSin.toInt s.oscCos.toInt
  { s with
    oscSin := store 8 sinNew
    oscCos := store 8 (oscCosNext s.params sinNew s.oscCos.toInt) }

/-- The side-tone level `st` (R93). -/
def sideToneLevel (P : Params) (sin : Int) : Byte :=
  store 8 ((sar sin P.stShift + 128) % 256)

end Sys2Proof.Machine
end

