-- ==== Sys2Proof/Machine/Modulator.lean ====
section
/-! DEFINITION. The sample processor: the SSB, AM, FM and CW encoders (spec/41_modulator.md), each with the part of step 5 that
follows it (spec/46_transmit_tick.md R175 to R180). -/

namespace Sys2Proof.Machine

/-- The slow average of `SSB_HPF` (R101). -/
def hpfAverage (P : Params) (x dc : Int) : Int :=
  tdiv (x + P.hpfK * dc) (P.hpfK + 1)

/-- The first line of `SSB_HPF` (R101). -/
def ssbHpf (x : Int) (s : State) : State :=
  { s with hpfDc := store 16 (hpfAverage s.params x s.hpfDc.toInt) }

/-- The shifted line with `hp` as its newest entry (R102, R58). -/
def shiftLine (hp : BitVec 18) (d : DelayLine) : DelayLine :=
  ⟨d.v1, d.v2, d.v3, d.v4, d.v5, d.v6, d.v7, d.v8, d.v9, d.v10, d.v11, d.v12, d.v13, d.v14, hp⟩

/-- `SSB_SHIFT` (R102), with `hp = x - hpf_dc` for the average just written (R101). -/
def ssbShift (x : Int) (s : State) : State :=
  { s with v := shiftLine (store 18 (x - s.hpfDc.toInt)) s.v }

/-- `i` of `SSB_HILBERT` (R103): twice the centre tap. -/
def inPhase (d : DelayLine) : Int := 2 * d.v7.toInt

/-- The weighted sum `s` of `SSB_HILBERT` (R103). -/
def hilbertSum (P : Params) (d : DelayLine) : Int :=
  P.hC0 * (d.v0.toInt - d.v14.toInt) + P.hC2 * (d.v2.toInt - d.v12.toInt)
    + P.hC4 * (d.v4.toInt - d.v10.toInt) + P.hC6 * (d.v6.toInt - d.v8.toInt)

/-- `q` of `SSB_HILBERT` (R103). -/
def quadrature (P : Params) (d : DelayLine) : Int :=
  tdiv (hilbertSum P d) P.hDiv + (d.v6.toInt - d.v8.toInt)

/-- `SSB_MAGN` (R104). -/
def magn (i q : Int) : Nat :=
  if q.natAbs < i.natAbs then i.natAbs + q.natAbs / 4 else q.natAbs + i.natAbs / 4

/-- `atan_oct(n, d)` (R106), for `n <= d` and `0 < d`. -/
def atanOct (P : Params) (n d : Nat) : Nat :=
  (atanA P + atanB P - atanB P * n / d) * n / d

/-- The first three lines of `SSB_ATAN` (R107): the angle in the first quadrant. -/
def atanQuadrant (P : Params) (aq ai : Nat) : Int :=
  if ai < aq then uaQuarter P - atanOct P ai aq
  else if ai = 0 then 0
  else atanOct P aq ai

/-- `arctan3(q, i)`, `SSB_ATAN` (R107). -/
def arctan3 (P : Params) (q i : Int) : Int :=
  let r := atanQuadrant P q.natAbs i.natAbs
  let r := if i < 0 then uaHalf P - r else r
  if q < 0 then -r else r

/-- Step 5 of an SSB tick for a delay line already shifted (R109, R175): gate, amplitude, limiter. -/
def ssbShape (s : State) : State :=
  let i := inPhase s.v
  let q := quadrature s.params s.v
  let ampRaw := magn i q
  prlStep (arctan3 s.params q i) (ampSsb ampRaw (gateStep (voxTrigger ampRaw s.cfg.voxThr) s))

/-- Steps 4 and 5 in USB and LSB (R175, R176). -/
def ssbTick (x : Int) (s : State) : State := ssbShape (ssbShift x (ssbHpf x s))

/-- Steps 4 and 5 in AM, `AM_ENCODE` (R111, R177). -/
def amTick (x : Int) (s : State) : State :=
  setPendDf 0
    (setPendAmp (lutRead s.params (clampIndex (shl x s.cfg.drive.toNat + s.params.amBase))) s)

/-- Steps 4 and 5 in FM, `FM_ENCODE` (R112, R178). -/
def fmTick (x : Int) (s : State) : State :=
  setPendAmp (lutRead s.params 255) (setPendDf (shl x s.cfg.drive.toNat) s)

/-- Steps 4 and 5 in CW, `CW_ENCODE` (R113, R179): the sample is ignored. -/
def cwTick (s : State) : State := oscStep (setPendDf 0 (ampCw s))

/-- The default arm (R180), unreachable. -/
def otherTick (s : State) : State := setPendDf 0 (setPendAmp 0 s)

end Sys2Proof.Machine
end

