-- ==== Sys2Proof/Machine/Transmit.lean ====
section
/-! DEFINITION. The events that run the transmitter: `TICK`, `PTT_ON`, `PTT_OFF`, `RESET` (spec/46_transmit_tick.md). -/

namespace Sys2Proof.Machine

/-- Steps 4 and 5 by mode (R174). -/
def modeTick (mode : Option Mode) (x : Int) (s : State) : State :=
  match mode with
  | some .usb => ssbTick x s
  | some .lsb => ssbTick x s
  | some .am => amTick x s
  | some .fm => fmTick x s
  | some .cw => cwTick s
  | none => otherTick s

/-- The last line of R174: the side-tone write, in CW only. -/
def sideToneOut (mode : Option Mode) (s : State) : State :=
  if mode = some .cw then sideToneWrite (sideToneLevel s.params s.oscSin.toInt) s else s

/-- A tick in TRANSMIT, its five steps in strict order, on one snapshot of `cfg` (R174). -/
def transmitTick (x : Int) (s : State) : State :=
  let mode := modeOfBits s.cfg.mode
  let s := ampCommit (synthXfer s)
  let s := synthCalc (modeTick mode x s)
  sideToneOut mode (ceEval (ceNew mode s.gateCnt) s)

/-- `TICK` (R173, R174). -/
def execTick (sample : BitVec 16) (s : State) : Host.Outcome State Fault Refusal :=
  match s.fsm with
  | .idle => .next (beginEvent s)
  | .transmit => .next (transmitTick (sampleValue sample) (beginEvent s))

/-- `PTT_ON` on an edge (R171): `car_en` starts at 0 in SSB and at 1 in the other modes. -/
def openTransmitGate (s : State) : State :=
  { carrierEnableWrite true (rearm { s with fsm := .transmit }) with carEn := !isSsb s.cfg.mode }

/-- `PTT_ON` (R171): no edge, no effect. -/
def execPttOn (s : State) : Host.Outcome State Fault Refusal :=
  match s.fsm with
  | .idle => .next (openTransmitGate (beginEvent s))
  | .transmit => .next (beginEvent s)

/-- The safe-off (R172): unconditional. -/
def safeOff (s : State) : State :=
  { carrierEnableWrite false (ampWrite 0 (clearPending (rearm { s with fsm := .idle }))) with
    carEn := false }

/-- `PTT_OFF` (R172). -/
def execPttOff (s : State) : Host.Outcome State Fault Refusal := .next (safeOff (beginEvent s))

/-- `RESET` (R170): no output event. -/
def execReset (s : State) : Host.Outcome State Fault Refusal := .next (resetRegisters (beginEvent s))

end Sys2Proof.Machine
end

