-- ==== Sys2Proof/Machine/Dispatch.lean ====
section
/-! DEFINITION. One arm per operation of the opcode map (spec/30_encoding.md R82). -/

namespace Sys2Proof.Machine

def exec (i : Instr) (s : State) : Host.Outcome State Fault Refusal :=
  match i with
  | .nop => Sys2Proof.Machine.execNop s
  | .cfg mode bw drive voxThr => Sys2Proof.Machine.execCfg mode bw drive voxThr s
  | .pttOff => Sys2Proof.Machine.execPttOff s
  | .pttOn => Sys2Proof.Machine.execPttOn s
  | .tick sample => Sys2Proof.Machine.execTick sample s
  | .rd idx => Sys2Proof.Machine.execRd idx s
  | .berr => Sys2Proof.Machine.execBerr s
  | .reset => Sys2Proof.Machine.execReset s

end Sys2Proof.Machine
end

