-- ==== Sys2Proof/Machine/Input.lean ====
section
/-! DEFINITION. Which delivered event word is taken next (spec/20_memory.md R61, R62; spec/60_exceptions.md R204). The queue is the
model's own (log entries 1 and 6). -/

namespace Sys2Proof.Machine

/-- R62: `RESET` first, then the host's events, then `BERR`, then `TICK`. A reserved operation code comes from the host's command
port and ranks with it (DESIGN CHOICE, log entry 6). -/
def rank (w : Word) : Nat :=
  match (opcode w).toNat with
  | 0xF => 0
  | 0x5 => 2
  | 0x3 => 3
  | _ => 1

/-- The first word of least rank among words presented together, and the others in their order. -/
def pickFirst : List Word → Option (Word × List Word)
  | [] => none
  | w :: ws =>
    match pickFirst ws with
    | none => some (w, [])
    | some (m, rest) => if rank w ≤ rank m then some (w, ws) else some (m, w :: rest)

/-- The word taken from one instant and what is left of it; `RESET` discards the others (R62). -/
def takeFromInstant (ws : List Word) : Option (Word × List Word) :=
  match pickFirst ws with
  | none => none
  | some (w, rest) => some (w, if rank w = 0 then [] else rest)

/-- The next event word of the run and the queue left after it; instants at which nothing is presented are passed over. -/
def nextEvent : List (List Word) → Option (Word × List (List Word))
  | [] => none
  | instant :: later =>
    match takeFromInstant instant with
    | none => nextEvent later
    | some (w, []) => some (w, later)
    | some (w, rest) => some (w, rest :: later)

end Sys2Proof.Machine
end

