-- ==== Sys2Proof/Machine/Deliver.lean ====
section
/-! DEFINITION. What the delivery of one event word does (spec/30_encoding.md R70, R80), and of no word. -/

namespace Sys2Proof.Machine

/-- The delivery of one event word: its operation runs; a word with a reserved operation code is illegal (R80 (1), R185). -/
def deliver (w : Word) (s : State) : Host.Outcome State Fault Refusal :=
  match decode w with
  | .ok i => exec i s
  | .error _ => .next (takeIllegalWord s)

/-- With no event delivered the block waits (R220): nothing changes, and there is no event to have a trace (log entry 1). -/
def waitForEvent (s : State) : State := { s with inputs := [], out := [] }

end Sys2Proof.Machine
end

