-- ==== Sys2Proof/Machine/Step.lean ====
section
/-! DEFINITION. One step: the next delivered event is taken and runs to completion (spec/00_scope.md R15, spec/20_memory.md R61). -/

namespace Sys2Proof.Machine

/-- One event (R15, R61). -/
def step (s : State) : Host.Outcome State Fault Refusal :=
  match nextEvent s.inputs with
  | none => .next (waitForEvent s)
  | some (w, rest) => deliver w { s with inputs := rest }

/-- The state with one event word presented alone, before everything already delivered: the next step runs it. An event word is
32 bits (R70), the bits above `nbits` zero. -/
def State.withFetchWord (s : State) (nbits w : Nat) : State :=
  { s with inputs := [BitVec.ofNat 32 (w % 2 ^ nbits)] :: s.inputs }

end Sys2Proof.Machine
end

