-- ==== Sys2Proof/Machine/Assembler.lean ====
section
/-! DEFINITION. The assembler syntax, its pseudo-instructions and the spelling of traces (spec/30_encoding.md R84 to R86). Text only:
no step reads it. What the spec leaves open of the text is log entry 15. -/

namespace Sys2Proof.Machine

/-- A line of assembler text (R84), pseudo-instructions included (R85). -/
inductive AsmLine where
  | blank
  | reset
  | nop
  | cfg (mode : Mode) (bw : Bandwidth) (drive : BitVec 4) (vox : BitVec 16)
  | ptt (on : Bool)
  | tick (sample : BitVec 16)
  | rd (idx : BitVec 4)
  | berr
  | word (w : Word)
  | tickTimes (sample : BitVec 16) (n : Nat)
  | ticks (samples : List (BitVec 16))
  | key (down : Bool)
  | safe
  | berrTimes (n : Nat)
  deriving DecidableEq, Repr

/-- `PTT_ON` or `PTT_OFF` (R84). -/
def asmPtt (on : Bool) : Instr := if on then .pttOn else .pttOff

/-- The event words a line stands for (R84, R85). -/
def assemble : AsmLine → List Word
  | .blank => []
  | .reset => [encode .reset]
  | .nop => [encode .nop]
  | .cfg mode bw drive vox => [encode (.cfg (modeToBits mode) (bwToBits bw) drive vox)]
  | .ptt on => [encode (asmPtt on)]
  | .tick x => [encode (.tick x)]
  | .rd idx => [encode (.rd idx)]
  | .berr => [encode .berr]
  | .word w => [w]
  | .tickTimes x n => List.replicate n (encode (.tick x))
  | .ticks xs => xs.map fun x => encode (.tick x)
  | .key down => [encode (asmPtt down)]
  | .safe => [encode .pttOff]
  | .berrTimes n => List.replicate n (encode .berr)

/-- Keywords are case-insensitive (R84). -/
def lowerChar (c : Char) : Char :=
  if 65 ≤ c.toNat ∧ c.toNat ≤ 90 then Char.ofNat (c.toNat + 32) else c

/-- `#` starts a comment (R84). -/
def uncomment : List Char → List Char
  | [] => []
  | c :: cs => if c = '#' then [] else lowerChar c :: uncomment cs

/-- Put a finished token before the later ones; an empty one is none. -/
def consToken (cur : List Char) (rest : List (List Char)) : List (List Char) :=
  match cur with
  | [] => rest
  | _ => cur.reverse :: rest

/-- The tokens of a line: separated by spaces or tabs, `*` a token of its own (R85). -/
def tokensFrom : List Char → List Char → List (List Char)
  | [], cur => consToken cur []
  | c :: cs, cur =>
    if c = ' ' ∨ c = '\t' then consToken cur (tokensFrom cs [])
    else if c = '*' then consToken cur (['*'] :: tokensFrom cs [])
    else tokensFrom cs (c :: cur)

/-- The value of a digit, up to base 16. -/
def digitValue (c : Char) : Option Nat :=
  if 48 ≤ c.toNat ∧ c.toNat ≤ 57 then some (c.toNat - 48)
  else if 97 ≤ c.toNat ∧ c.toNat ≤ 102 then some (c.toNat - 87)
  else none

/-- The digits of a number in a base. -/
def digitsValue (base : Nat) : Nat → List Char → Option Nat
  | acc, [] => some acc
  | acc, c :: cs =>
    match digitValue c with
    | some d => if d < base then digitsValue base (acc * base + d) cs else none
    | none => none

/-- A number: decimal, or hexadecimal with `0x` (R84). -/
def numberOf : List Char → Option Nat
  | [] => none
  | ['0', 'x'] => none
  | '0' :: 'x' :: ds => digitsValue 16 0 ds
  | ds => digitsValue 10 0 ds

/-- A number below a bound. -/
def numberBelow (bound : Nat) (t : List Char) : Option Nat :=
  match numberOf t with
  | some n => if n < bound then some n else none
  | none => none

/-- A sample, -32768 to 32767 (R84). -/
def sampleOf (t : List Char) : Option (BitVec 16) :=
  match t with
  | '-' :: ds => (numberBelow 32769 ds).map fun n => BitVec.ofInt 16 (-(n : Int))
  | ds => (numberBelow 32768 ds).map (BitVec.ofNat 16)

/-- The samples of `ticks` (R85). Where R85 does not say whether a `ticks` line may have no sample, it may, and stands for no event
(DESIGN CHOICE, log entry 15). -/
def samplesOf : List (List Char) → Option (List (BitVec 16))
  | [] => some []
  | t :: ts =>
    match sampleOf t, samplesOf ts with
    | some x, some xs => some (x :: xs)
    | _, _ => none

/-- A mode name (R84). -/
def modeOf (t : List Char) : Option Mode :=
  if t = ['u', 's', 'b'] then some .usb
  else if t = ['l', 's', 'b'] then some .lsb
  else if t = ['a', 'm'] then some .am
  else if t = ['f', 'm'] then some .fm
  else if t = ['c', 'w'] then some .cw
  else none

/-- A bandwidth name (R84). -/
def bandwidthOf (t : List Char) : Option Bandwidth :=
  if t = ['f', 'u', 'l', 'l'] then some .full
  else if t = ['h', 'a', 'l', 'f'] then some .half
  else if t = ['q', 'u', 'a', 'r', 't', 'e', 'r'] then some .quarter
  else none

/-- A host register, by name or by index 0 to 15 (R84, R59). -/
def hostIndexOf (t : List Char) : Option (BitVec 4) :=
  if t = ['c', 'f', 'g'] then some 0
  else if t = ['s', 't', 'a', 't', 'u', 's'] then some 1
  else if t = ['b', 'u', 's', 'e', 'r', 'r'] then some 2
  else if t = ['a', 'm', 'p'] then some 3
  else if t = ['d', 'f'] then some 4
  else if t = ['p', 'h', 'a', 's', 'e'] then some 5
  else if t = ['o', 's', 'c'] then some 6
  else (numberBelow 16 t).map (BitVec.ofNat 4)

/-- `key=value` as its two halves. -/
def splitAtEq : List Char → Option (List Char × List Char)
  | [] => none
  | c :: cs =>
    if c = '=' then some ([], cs)
    else (splitAtEq cs).map fun kv => (c :: kv.1, kv.2)

/-- The fields of a `cfg` line as read so far. -/
structure CfgFields where
  mode : Option Mode
  bw : Option Bandwidth
  drive : Option (BitVec 4)
  vox : Option (BitVec 16)
  deriving DecidableEq, Repr

/-- One `key=value` of a `cfg` line; a field given twice is no line of the syntax (log entry 15). -/
def addCfgField (f : CfgFields) (t : List Char) : Option CfgFields :=
  match splitAtEq t with
  | none => none
  | some (k, v) =>
    if k = ['m', 'o', 'd', 'e'] ∧ f.mode = none then (modeOf v).map fun m => { f with mode := some m }
    else if k = ['b', 'w'] ∧ f.bw = none then (bandwidthOf v).map fun b => { f with bw := some b }
    else if k = ['d', 'r', 'i', 'v', 'e'] ∧ f.drive = none then
      (numberBelow 16 v).map fun n => { f with drive := some (BitVec.ofNat 4 n) }
    else if k = ['v', 'o', 'x'] ∧ f.vox = none then
      (numberBelow 65536 v).map fun n => { f with vox := some (BitVec.ofNat 16 n) }
    else none

/-- All the fields of a `cfg` line. -/
def addCfgFields : CfgFields → List (List Char) → Option CfgFields
  | f, [] => some f
  | f, t :: ts =>
    match addCfgField f t with
    | some g => addCfgFields g ts
    | none => none

/-- `cfg`: an omitted `bw`, `drive` or `vox` is 0, `mode` is mandatory (R84). -/
def cfgLine (ts : List (List Char)) : Option AsmLine :=
  match addCfgFields ⟨none, none, none, none⟩ ts with
  | some f => f.mode.map fun m => .cfg m (f.bw.getD .full) (f.drive.getD 0) (f.vox.getD 0)
  | none => none

/-- `tick <sample>` or `tick <sample> * <n>` (R84, R85); `n` may be 0 (log entry 15). -/
def tickLine : List (List Char) → Option AsmLine
  | [x] => (sampleOf x).map .tick
  | [x, ['*'], n] =>
    match sampleOf x, numberOf n with
    | some x, some n => some (.tickTimes x n)
    | _, _ => none
  | _ => none

/-- `berr` or `berr * <n>` (R84, R85); `n` may be 0 (log entry 15). -/
def berrLine : List (List Char) → Option AsmLine
  | [] => some .berr
  | [['*'], n] => (numberOf n).map .berrTimes
  | _ => none

/-- A keyword without operands. -/
def bare (line : AsmLine) : List (List Char) → Option AsmLine
  | [] => some line
  | _ => none

/-- A keyword with the operand `yes` or the operand `no`. -/
def choice (yes no : List Char) (line : Bool → AsmLine) : List (List Char) → Option AsmLine
  | [t] => if t = yes then some (line true) else if t = no then some (line false) else none
  | _ => none

/-- A line from its tokens (R84, R85). -/
def lineOfTokens : List (List Char) → Option AsmLine
  | [] => some .blank
  | k :: ts =>
    if k = ['r', 'e', 's', 'e', 't'] then bare .reset ts
    else if k = ['n', 'o', 'p'] then bare .nop ts
    else if k = ['c', 'f', 'g'] then cfgLine ts
    else if k = ['p', 't', 't'] then choice ['o', 'n'] ['o', 'f', 'f'] .ptt ts
    else if k = ['t', 'i', 'c', 'k'] then tickLine ts
    else if k = ['t', 'i', 'c', 'k', 's'] then (samplesOf ts).map .ticks
    else if k = ['r', 'd'] then
      match ts with
      | [t] => (hostIndexOf t).map .rd
      | _ => none
    else if k = ['b', 'e', 'r', 'r'] then berrLine ts
    else if k = ['.', 'w', 'o', 'r', 'd'] then
      match ts with
      | [t] => (numberBelow (2 ^ 32) t).map fun n => .word (BitVec.ofNat 32 n)
      | _ => none
    else if k = ['k', 'e', 'y'] then choice ['d', 'o', 'w', 'n'] ['u', 'p'] .key ts
    else if k = ['s', 'a', 'f', 'e'] then bare .safe ts
    else none

/-- A line from its text (R84); none where the text is no line of the syntax. -/
def parseLine (text : List Char) : Option AsmLine := lineOfTokens (tokensFrom (uncomment text) [])

/-- A hexadecimal digit, capital as in R86. -/
def hexDigitChar (n : Nat) : Char := if n < 10 then Char.ofNat (48 + n) else Char.ofNat (55 + n)

/-- `n` hexadecimal digits of a value. -/
def hexChars : Nat → Nat → List Char
  | 0, _ => []
  | n + 1, v => hexChars n (v / 16) ++ [hexDigitChar (v % 16)]

/-- The bytes of a bulk write, in hexadecimal, a space between them (R86). -/
def hexBytes : List Byte → List Char
  | [] => []
  | [b] => hexChars 2 b.toNat
  | b :: bs => hexChars 2 b.toNat ++ ' ' :: hexBytes bs

/-- The decimal digits of a level, 0 to 255. -/
def levelChars (v : Byte) : List Char :=
  let d := fun n => Char.ofNat (48 + n % 10)
  let n := v.toNat
  if n < 10 then [d n] else if n < 100 then [d (n / 10), d n] else [d (n / 100), d (n / 10), d n]

/-- The spelling of one output event (R86). -/
def spellEvent : OutEvent → List Char
  | .bulkWrite bs => ['B', 'U', 'L', 'K', '('] ++ hexBytes bs ++ [')']
  | .ampWrite v => ['A', 'M', 'P', '('] ++ levelChars v ++ [')']
  | .sideToneWrite v => ['S', 'T', '('] ++ levelChars v ++ [')']
  | .carrierEnableWrite b => ['C', 'E', '(', if b then '1' else '0', ')']
  | .rdData w => ['R', 'D', '(', '0', 'x'] ++ hexChars 8 w.toNat ++ [')']

/-- The events of a trace with a comma and a space between them. -/
def spellEvents : List OutEvent → List Char
  | [] => []
  | [e] => spellEvent e
  | e :: es => spellEvent e ++ ',' :: ' ' :: spellEvents es

/-- The spelling of a trace: a bracketed list in emission order (R86). -/
def spellTrace (es : List OutEvent) : List Char := ['['] ++ spellEvents es ++ [']']

end Sys2Proof.Machine
end

