-- ==== Sys2Proof/Safety.lean ====
section
/-! DEFINITION. What counts as a safe run: the invariants of spec/10_state.md R49, and safe-off (spec/00_scope.md R19,
spec/46_transmit_tick.md R189). -/

namespace Sys2Proof.Machine

/-- R49, 6: the values an amplitude may have: 0, a table entry, or the level of a ramp weight (full scale among them). -/
def LegalLevel (P : Params) (level : Byte) : Prop :=
  level = 0 ∨ (∃ a : Fin 256, level = lutRead P a) ∨ (∃ k : Fin 31, level = rampLevel P (rampRead P k).toNat)

/-- R49, 7: an entry of the delay line. -/
def LegalEntry (e : BitVec 18) : Prop := e.toInt.natAbs ≤ 65535

/-- R49, 1: what IDLE implies. -/
structure IdleQuiet (s : State) : Prop where
  gate_off : s.gateCnt = 0
  ramp_armed : s.rampIdx = 31
  car_en_off : s.carEn = false
  car_reg_off : s.carReg = false
  pend_amp_zero : s.pendAmp = 0
  pend_df_zero : s.pendDf = 0
  amp_out_zero : s.ampOut = 0

/-- R49: the invariants of every reachable state, for an admissible parameter record (R5). Invariant 3 and the second half of 5
and of 7 hold by the types of the registers. -/
structure Inv (s : State) : Prop where
  params_admissible : s.params.Admissible
  idle_quiet : s.fsm = .idle → IdleQuiet s
  gate_bounded : s.gateCnt.toNat ≤ s.params.hangMax
  regs_follow : s.synthRegs = regCalc s.params s.pendDf
  mode_legal : s.cfg.mode.toNat ≤ 4
  amp_out_legal : LegalLevel s.params s.ampOut
  pend_amp_legal : LegalLevel s.params s.pendAmp
  line_legal : ∀ e ∈ s.v.toList, LegalEntry e

/-- Safe-off (R19): amplitude output zero, carrier enable register disabled, pending slot cleared. -/
structure SafeOff (s : State) : Prop where
  amp_out_zero : s.ampOut = 0
  car_reg_off : s.carReg = false
  pend_amp_zero : s.pendAmp = 0
  pend_df_zero : s.pendDf = 0
  regs_unshifted : s.synthRegs = regCalc s.params 0

/-- Every output event but the side-tone write: what R94 keeps the oscillator away from. -/
def OutEvent.notSideTone : OutEvent → Bool
  | .bulkWrite _ => true
  | .ampWrite _ => true
  | .sideToneWrite _ => false
  | .carrierEnableWrite _ => true
  | .rdData _ => true

/-- A run of events, oldest first, that stops at the first fault or refusal (spec/20_memory.md R61). -/
def execAll : List Instr → State → Host.Outcome State Fault Refusal
  | [], s => .next s
  | i :: is, s =>
    match exec i s with
    | .next t => execAll is t
    | .fault r => .fault r
    | .refused r => .refused r

end Sys2Proof.Machine
end

