-- ==== Sys2Proof/Certificates/Slice0/Obligations.lean ====
section
/-! DEFINITION. The statements for the provers, from the numbered rules of spec/. A register read as a signed integer is `.toInt`,
as an unsigned one `.toNat`; `Int.tdiv` truncates toward zero (R9) and `Int.bmod _ (2^N)` is `wrapN` (R11). -/

open Sys2Proof Sys2Proof.Machine

/-! ## Events: delivery, decoding, order -/

/-- R70, R61: the next delivered word, if it decodes, is run by `exec` with the word taken off the queue; a word alone at the head
of the queue is the next one. -/
def Obligations.StepRunsDecodedEvent : Prop :=
  (∀ (s : State) (w : Word) (rest : List (List Word)) (i : Instr),
    nextEvent s.inputs = some (w, rest) → decode w = .ok i → step s = exec i { s with inputs := rest }) ∧
  (∀ (s : State) (w : Word) (later : List (List Word)) (i : Instr),
    s.inputs = [w] :: later → decode w = .ok i → step s = exec i { s with inputs := later })

/-- An instruction placed by `withFetchWord` is what the next step runs, on the state as it was. -/
def Obligations.PlacedWordIsRunNext : Prop :=
  ∀ (s : State) (i : Instr), step (s.withFetchWord 32 (encode i).toNat) = exec i s

/-- With nothing delivered a step changes no register (log entry 1: the model's choice of what a step without an event is). -/
def Obligations.NoEventChangesNoRegister : Prop :=
  ∀ s : State, (∀ ws ∈ s.inputs, ws = []) → step s = .next { s with inputs := [], out := [] }

/-- R62: among words presented together RESET is first, then the host's, then BERR, then TICK; RESET discards the others. Words of
equal rank are taken in the order presented, and a reserved word ranks with the host's: the model's choice, log entry 6. -/
def Obligations.SimultaneousEventsInOrder : Prop :=
  (∀ w : Word, rank w = if opcode w = 15 then 0 else if opcode w = 5 then 2 else if opcode w = 3 then 3 else 1) ∧
  (∀ (s : State) (ws : List Word) (later : List (List Word)), s.inputs = ws :: later → ws ≠ [] →
    ∃ (pre : List Word) (w : Word) (post : List Word), ws = pre ++ w :: post ∧
      (∀ u ∈ pre, rank w < rank u) ∧ (∀ u ∈ post, rank w ≤ rank u) ∧
      let left := if opcode w = 15 ∨ pre ++ post = [] then later else (pre ++ post) :: later
      step s = deliver w { s with inputs := left })

/-- R72 to R79: every encoding decodes to its instruction, with every operand at every value. -/
def Obligations.DecodeOfEncode : Prop := ∀ i : Instr, decode (encode i) = .ok i

/-- R79: a word that decodes is its encoding but for payload bits outside the format's fields, which are ignored on decode and
written as 0. -/
def Obligations.EncodeOfDecodeUpToIgnoredBits : Prop :=
  ∀ (w : Word) (i : Instr), decode w = .ok i →
    encode i = w &&& formatMask i ∧ ∀ u : Word, u &&& formatMask i = w &&& formatMask i → decode u = .ok i

/-- R80, R81: which words are illegal, by operation code, mode and bandwidth bits; every other word is a well-formed operation. -/
def Obligations.IllegalWordsAreExactlyThese : Prop :=
  ∀ w : Word,
    ((∃ e, decode w = .error e) ↔ 6 ≤ (opcode w).toNat ∧ (opcode w).toNat ≤ 14) ∧
    ((∃ i, decode w = .ok i ∧ i.wellFormed = false) ↔
      opcode w = 1 ∧ (5 ≤ (w.extractLsb' 0 3).toNat ∨ (w.extractLsb' 3 2).toNat = 3))

/-- R80: an illegal word, alone at the head of the queue, sets `err` and does nothing else; the trace is empty. -/
def Obligations.IllegalWordOnlySetsErr : Prop :=
  ∀ (s : State) (w : Word) (later : List (List Word)), s.inputs = [w] :: later →
    ((6 ≤ (opcode w).toNat ∧ (opcode w).toNat ≤ 14) ∨
      (opcode w = 1 ∧ (5 ≤ (w.extractLsb' 0 3).toNat ∨ (w.extractLsb' 3 2).toNat = 3))) →
    step s = .next { s with inputs := later, out := [], err := true }

/-- R87: words written out from the formats decode to what they stand for. -/
def Obligations.WrittenOutWordsDecode : Prop :=
  decode 0x10000800 = .ok (.cfg 0 0 0 4) ∧ decode 0x1000C871 = .ok (.cfg 1 2 3 100) ∧
  decode 0x20000001 = .ok .pttOn ∧ decode 0x2FFFFFFE = .ok .pttOff ∧
  decode 0x300003E8 = .ok (.tick 1000) ∧ decode 0x3000FFFF = .ok (.tick (-1)) ∧
  decode 0x40000001 = .ok (.rd 1) ∧ decode 0x50000000 = .ok .berr ∧ decode 0xF0000000 = .ok .reset

/-- R79, R84, R85: every word an assembler line stands for, `.word` lines apart, is the encoding of a well-formed instruction. -/
def Obligations.AssemblerWritesLegalWords : Prop :=
  ∀ (line : AsmLine) (w : Word), (∀ u, line ≠ .word u) → w ∈ assemble line →
    ∃ i : Instr, encode i = w ∧ decode w = .ok i ∧ i.wellFormed = true

/-! ## Host operations -/

/-- R184. -/
def Obligations.NopChangesNothing : Prop := ∀ s : State, exec .nop s = .next { s with out := [] }

/-- R181: a legal `CFG` publishes the whole record and changes nothing else; an illegal one only sets `err`. -/
def Obligations.CfgPublishesWholeRecord : Prop :=
  (∀ (m : BitVec 3) (b : Bandwidth) (d : BitVec 4) (v : BitVec 16) (s : State), m.toNat ≤ 4 →
    exec (.cfg m (match b with | .full => 0 | .half => 1 | .quarter => 2) d v) s =
      .next { s with out := [], cfg := { mode := m, bw := b, drive := d, voxThr := v } }) ∧
  (∀ (m : BitVec 3) (b : BitVec 2) (d : BitVec 4) (v : BitVec 16) (s : State), 4 < m.toNat ∨ b.toNat = 3 →
    exec (.cfg m b d v) s = .next { s with out := [], err := true }) ∧
  (∀ s : State, ∃ i t, decode 0x1000C871 = .ok i ∧ exec i s = .next t ∧ hostReg t 0 = 0x0000C871)

/-- R182: a read emits the word of the host register and changes nothing; indices 7 to 15 return 0. -/
def Obligations.RdEmitsHostRegister : Prop :=
  ∀ (idx : BitVec 4) (s : State),
    exec (.rd idx) s = .next { s with out := [.rdData (hostReg s idx)] } ∧ (7 ≤ idx.toNat → hostReg s idx = 0)

/-- R40 to R45: the layouts of the host registers, as numbers, and their reset values. -/
def Obligations.HostRegisterLayouts : Prop :=
  (∀ s : State,
    (hostReg s 0).toNat = s.cfg.mode.toNat
      + 2 ^ 3 * (match s.cfg.bw with | .full => 0 | .half => 1 | .quarter => 2)
      + 2 ^ 5 * s.cfg.drive.toNat + 2 ^ 9 * s.cfg.voxThr.toNat ∧
    (hostReg s 1).toNat = (if s.fsm = .transmit then 1 else 0) + (if s.carEn then 2 else 0)
      + (if s.carReg then 4 else 0) + (if s.err then 8 else 0)
      + 2 ^ 8 * s.rampIdx.toNat + 2 ^ 16 * s.gateCnt.toNat ∧
    (hostReg s 2).toNat = s.busErr.toNat ∧
    (hostReg s 3).toNat = s.ampOut.toNat + 2 ^ 8 * s.pendAmp.toNat + 2 ^ 16 * s.stOut.toNat ∧
    ((hostReg s 4).toNat : Int) = s.pendDf.toInt % 2 ^ 32 ∧
    ((hostReg s 5).toNat : Int) = s.prevPhase.toInt % 2 ^ 32) ∧
  hostReg State.reset 0 = 0x00000000 ∧ hostReg State.reset 1 = 0x00001F00 ∧
  hostReg State.reset 2 = 0x00000000 ∧ hostReg State.reset 3 = 0x00800000 ∧
  hostReg State.reset 4 = 0x00000000 ∧ hostReg State.reset 5 = 0x00000000

/-- R46: the oscillator word; the reserved indices; and no host register shows `hpf_dc`, `v` or `synth_regs`, of which the next
tick's bulk write shows `synth_regs`. -/
def Obligations.HostOscAndHiddenRegisters : Prop :=
  (∀ s : State, ((hostReg s 6).toNat : Int) = s.oscSin.toInt % 256 + 2 ^ 8 * (s.oscCos.toInt % 256)) ∧
  hostReg State.reset 6 = 0x00007000 ∧
  (∀ (s : State) (idx : BitVec 4), 7 ≤ idx.toNat → hostReg s idx = 0x00000000) ∧
  (∀ (s : State) (idx : BitVec 4) (dc : BitVec 16) (v : DelayLine) (regs : List Byte),
    hostReg { s with hpfDc := dc, v := v, synthRegs := regs } idx = hostReg s idx) ∧
  (∀ (s : State) (x : BitVec 16), s.fsm = .transmit →
    ∃ t rest, exec (.tick x) s = .next t ∧ t.out = .bulkWrite s.synthRegs :: rest)

/-- R183: the saturating count; nothing else changes and nothing is emitted. -/
def Obligations.BerrCountsAndSaturates : Prop :=
  ∀ s : State, ∃ n : BitVec 16, n.toNat = min 65535 (s.busErr.toNat + 1) ∧
    exec .berr s = .next { s with out := [], busErr := n }

/-! ## Reset and the transmit gate -/

/-- R48, R170: every register after RESET, from any state; nothing is emitted. -/
def Obligations.ResetSetsEveryRegister : Prop :=
  ∀ s : State, exec .reset s = .next { s with
    fsm := .idle, cfg := { mode := 0, bw := .full, drive := 0, voxThr := 0 }, err := false
    oscSin := s.params.oscInitSin, oscCos := s.params.oscInitCos, hpfDc := 0
    v := ⟨0, 0, 0, 0, 0, 0, 0, 0, 0, 0, 0, 0, 0, 0, 0⟩, prevPhase := 0, gateCnt := 0, rampIdx := 31
    carEn := false, carReg := false, pendAmp := 0, pendDf := 0
    synthRegs := (List.range s.params.synthNregs).map (Config.regByte s.params 0)
    ampOut := 0, stOut := 128, busErr := 0, out := [] }

/-- The state after reset is the one RESET leaves, with the record P0 (log entry 3) and nothing delivered. -/
def Obligations.ResetStateIsWhatResetLeaves : Prop :=
  ∀ s : State, s.params = Params.p0 → s.inputs = [] → s.freeCtr = 0 → exec .reset s = .next State.reset

/-- R171: the on-edge enters TRANSMIT, resets the gate and the ramp, writes the enable register in every mode, and starts `car_en`
at 0 in SSB and 1 in the other modes; in TRANSMIT it does nothing at all. -/
def Obligations.PttOnOpensTheGateOnce : Prop :=
  ∀ s : State,
    (s.fsm = .idle → exec .pttOn s = .next { s with
      fsm := .transmit, gateCnt := 0, rampIdx := 31, carReg := true
      carEn := if s.cfg.mode = 0 ∨ s.cfg.mode = 1 then false else true
      out := [.carrierEnableWrite true] }) ∧
    (s.fsm = .transmit → exec .pttOn s = .next { s with out := [] })

/-- R172: the off-edge, in full in every state and mode. -/
def Obligations.PttOffIsUnconditionalSafeOff : Prop :=
  ∀ s : State, exec .pttOff s = .next { s with
    fsm := .idle, gateCnt := 0, rampIdx := 31, pendAmp := 0, pendDf := 0
    synthRegs := (List.range s.params.synthNregs).map (Config.regByte s.params 0)
    ampOut := 0, carReg := false, carEn := false
    out := [.ampWrite 0, .carrierEnableWrite false] }

/-- R189: after PTT_OFF, whatever events follow, as long as none is PTT_ON, the machine is IDLE and safe, and a tick changes and
emits nothing. -/
def Obligations.CancellationHoldsUntilPttOn : Prop :=
  ∀ (s : State) (is : List Instr), (∀ i ∈ is, i ≠ .pttOn) →
    ∃ t, execAll (.pttOff :: is) s = .next t ∧ t.fsm = .idle ∧ SafeOff t ∧
      ∀ x : BitVec 16, exec (.tick x) t = .next { t with out := [] }

/-! ## The tick -/

/-- R173. -/
def Obligations.TickInIdleDoesNothing : Prop :=
  ∀ (s : State) (x : BitVec 16), s.fsm = .idle → exec (.tick x) s = .next { s with out := [] }

/-- R174, R150, R161, R162, R63: in TRANSMIT a tick of any mode commits the pending amplitude, leaves the registers that follow the
new delta, and emits the bulk write, the amplitude write, the enable write exactly when the observable changed, and in CW the
side-tone write, in that order. -/
def Obligations.TransmitTickTrace : Prop :=
  ∀ (s : State) (x : BitVec 16), s.fsm = .transmit →
    ∃ t, exec (.tick x) s = .next t ∧ t.fsm = .transmit ∧ t.ampOut = s.pendAmp ∧
      t.synthRegs = regCalc s.params t.pendDf ∧
      t.carEn = (if s.cfg.mode = 0 ∨ s.cfg.mode = 1 then decide (0 < t.gateCnt.toNat)
        else decide (s.cfg.mode.toNat ≤ 4)) ∧
      t.carReg = (if t.carEn = s.carEn then s.carReg else t.carEn) ∧
      t.out = [.bulkWrite s.synthRegs, .ampWrite s.pendAmp]
        ++ (if t.carEn = s.carEn then [] else [.carrierEnableWrite t.carEn])
        ++ (if s.cfg.mode = 4 then [.sideToneWrite t.stOut] else [])

/-- R111, R177: the AM tick. -/
def Obligations.AmTickResult : Prop :=
  ∀ (s : State) (x : BitVec 16), s.fsm = .transmit → s.cfg.mode = 2 →
    ∃ a : Fin 256, (a.val : Int) = max 0 (min 255 (x.toInt * 2 ^ s.cfg.drive.toNat + s.params.amBase)) ∧
      exec (.tick x) s = .next { s with
        pendAmp := s.params.lut.get a, pendDf := 0, synthRegs := regCalc s.params 0, ampOut := s.pendAmp
        carEn := true, carReg := if s.carEn then s.carReg else true
        out := [.bulkWrite s.synthRegs, .ampWrite s.pendAmp]
          ++ if s.carEn then [] else [.carrierEnableWrite true] }

/-- R112, R178: the FM tick. -/
def Obligations.FmTickResult : Prop :=
  ∀ (s : State) (x : BitVec 16), s.fsm = .transmit → s.cfg.mode = 3 →
    ∃ df : BitVec 32, df.toInt = x.toInt * 2 ^ s.cfg.drive.toNat ∧
      exec (.tick x) s = .next { s with
        pendAmp := s.params.lut.get 255, pendDf := df, synthRegs := regCalc s.params df, ampOut := s.pendAmp
        carEn := true, carReg := if s.carEn then s.carReg else true
        out := [.bulkWrite s.synthRegs, .ampWrite s.pendAmp]
          ++ if s.carEn then [] else [.carrierEnableWrite true] }

/-- R91, R93, R113, R128, R179: the CW tick: ramp, oscillator and side tone; the sample is ignored. -/
def Obligations.CwTickResult : Prop :=
  ∀ (s : State) (x : BitVec 16), s.fsm = .transmit → s.cfg.mode = 4 →
    ∃ (sin cos : BitVec 8) (idx : BitVec 5) (w : Nat) (level st : Byte),
      sin.toInt = Int.bmod (s.oscSin.toInt + Int.tdiv (s.params.oscAlpha * s.oscCos.toInt) 127) (2 ^ 8) ∧
      cos.toInt = Int.bmod (s.oscCos.toInt - Int.tdiv (s.params.oscAlpha * sin.toInt) 127) (2 ^ 8) ∧
      (s.rampIdx = 0 → w = 255 ∧ idx = 0) ∧
      (∀ k : Fin 31, s.rampIdx.toNat = k.val + 1 → w = (s.params.ramp.get k).toNat ∧ idx.toNat = k.val) ∧
      level.toNat = w * (s.params.lut.get 255).toNat / 255 ∧
      (st.toNat : Int) = sin.toInt / 2 ^ s.params.stShift + 128 ∧
      exec (.tick x) s = .next { s with
        oscSin := sin, oscCos := cos, rampIdx := idx, pendAmp := level, pendDf := 0
        synthRegs := regCalc s.params 0, ampOut := s.pendAmp, stOut := st
        carEn := true, carReg := if s.carEn then s.carReg else true
        out := [.bulkWrite s.synthRegs, .ampWrite s.pendAmp]
          ++ (if s.carEn then [] else [.carrierEnableWrite true]) ++ [.sideToneWrite st] }

/-- R180: the default arm degrades to carrier off. -/
def Obligations.UnreachableModeDegradesToCarrierOff : Prop :=
  ∀ (s : State) (x : BitVec 16), s.fsm = .transmit → 4 < s.cfg.mode.toNat →
    exec (.tick x) s = .next { s with
      pendAmp := 0, pendDf := 0, synthRegs := regCalc s.params 0, ampOut := s.pendAmp
      carEn := false, carReg := if s.carEn then false else s.carReg
      out := [.bulkWrite s.synthRegs, .ampWrite s.pendAmp]
        ++ if s.carEn then [.carrierEnableWrite false] else [] }

/-- R101, R102, R58: the high-pass and the shift of an SSB tick; every value fits its register. -/
def Obligations.SsbTickFiltersAndShifts : Prop :=
  ∀ (s : State) (x : BitVec 16), s.fsm = .transmit → (s.cfg.mode = 0 ∨ s.cfg.mode = 1) →
    ∃ (t : State) (hp : BitVec 18), exec (.tick x) s = .next t ∧
      t.hpfDc.toInt = Int.tdiv (x.toInt + s.params.hpfK * s.hpfDc.toInt) (s.params.hpfK + 1) ∧
      hp.toInt = x.toInt - t.hpfDc.toInt ∧
      t.v.toList = s.v.toList.tail ++ [hp]

/-- R103: the in-phase and quadrature pair of a delay line. -/
def Obligations.HilbertPair : Prop :=
  ∀ (P : Params) (d : DelayLine),
    inPhase d = 2 * d.v7.toInt ∧
    quadrature P d = Int.tdiv
      (P.hC0 * (d.v0.toInt - d.v14.toInt) + P.hC2 * (d.v2.toInt - d.v12.toInt)
        + P.hC4 * (d.v4.toInt - d.v10.toInt) + P.hC6 * (d.v6.toInt - d.v8.toInt)) P.hDiv
      + (d.v6.toInt - d.v8.toInt)

/-- R103 (2): the filter is exactly odd-symmetric: negating every entry negates the pair. -/
def Obligations.HilbertIsOddSymmetric : Prop :=
  ∀ (P : Params) (d e : DelayLine), e.toList.map BitVec.toInt = d.toList.map (fun b => -b.toInt) →
    inPhase e = -inPhase d ∧ quadrature P e = -quadrature P d

/-- R104: the magnitude estimate, and that the two branches agree where |i| = |q|. -/
def Obligations.MagnitudeEstimate : Prop :=
  (∀ i q : Int, (magn i q : Int) = if |q| < |i| then |i| + |q| / 4 else |q| + |i| / 4) ∧
  (∀ i q : Int, magn i q = magn q i) ∧ (∀ i q : Int, magn (-i) q = magn i q)

/-- R103, R104: with P0 and a line within its bounds, |i|, |q| and `amp_raw` stay within theirs. -/
def Obligations.SsbBoundsWithP0 : Prop :=
  ∀ d : DelayLine, (∀ e ∈ d.toList, LegalEntry e) →
    |inPhase d| ≤ 131070 ∧ |quadrature Params.p0 d| ≤ 227324 ∧
      magn (inPhase d) (quadrature Params.p0 d) ≤ 260091

/-- R105, R146, R122, R124: the trigger, the gate and the amplitude of an SSB tick, from the line it leaves. -/
def Obligations.SsbTickGateAndAmplitude : Prop :=
  ∀ (s : State) (x : BitVec 16), s.fsm = .transmit → (s.cfg.mode = 0 ∨ s.cfg.mode = 1) → s.params.Admissible →
    ∃ (t : State) (ampRaw : Nat), exec (.tick x) s = .next t ∧
      ampRaw = magn (inPhase t.v) (quadrature s.params t.v) ∧
      (s.cfg.voxThr.toNat < ampRaw → s.gateCnt = 0 → t.gateCnt.toNat = s.params.hangMax) ∧
      (s.cfg.voxThr.toNat < ampRaw → s.gateCnt ≠ 0 → t.gateCnt.toNat = s.params.hangMax - 1) ∧
      (ampRaw ≤ s.cfg.voxThr.toNat → t.gateCnt.toNat = s.gateCnt.toNat - 1) ∧
      (t.gateCnt = 0 → t.pendAmp = 0) ∧
      (t.gateCnt ≠ 0 → ∀ a : Fin 256, a.val = min 255 (ampRaw * 2 ^ s.cfg.drive.toNat) →
        t.pendAmp = s.params.lut.get a)

/-- R187: the SSB rows of the state table, where the observable agrees with the gate: the gate's next value and the trace. -/
def Obligations.SsbGateTable : Prop :=
  ∀ (s : State) (x : BitVec 16), s.fsm = .transmit → (s.cfg.mode = 0 ∨ s.cfg.mode = 1) → s.params.Admissible →
    s.carEn = decide (0 < s.gateCnt.toNat) →
    ∃ t, exec (.tick x) s = .next t ∧ t.fsm = .transmit ∧
      let trig := s.cfg.voxThr.toNat < magn (inPhase t.v) (quadrature s.params t.v)
      let both : List OutEvent := [.bulkWrite s.synthRegs, .ampWrite s.pendAmp]
      (trig → s.gateCnt = 0 → t.gateCnt.toNat = s.params.hangMax ∧ t.out = both ++ [.carrierEnableWrite true]) ∧
      (trig → s.gateCnt ≠ 0 → t.gateCnt.toNat = s.params.hangMax - 1 ∧ t.out = both) ∧
      (¬ trig → 1 < s.gateCnt.toNat → t.gateCnt.toNat = s.gateCnt.toNat - 1 ∧ t.out = both) ∧
      (¬ trig → s.gateCnt = 1 → t.gateCnt = 0 ∧ t.out = both ++ [.carrierEnableWrite false]) ∧
      (¬ trig → s.gateCnt = 0 → t.gateCnt = 0 ∧ t.out = both)

/-- R136 to R141: the limiter of an SSB tick, from the line it leaves: the remembered phase, and the delta wherever it fits 32
signed bits. Where it does not (only after a wrap) the tick still completes, the remembered phase is as stated, and `pend_df` is
a free value, of which nothing is said (log entry 5, the model's choice). -/
def Obligations.SsbTickLimiter : Prop :=
  ∀ (s : State) (x : BitVec 16), s.fsm = .transmit → (s.cfg.mode = 0 ∨ s.cfg.mode = 1) → s.params.Admissible →
    ∃ (t : State) (phase dp dpNorm df : Int), exec (.tick x) s = .next t ∧
      phase = arctan3 s.params (quadrature s.params t.v) (inPhase t.v) ∧
      dpNorm = (if phase - s.prevPhase.toInt < 0 then phase - s.prevPhase.toInt + s.params.ua
        else phase - s.prevPhase.toInt) ∧
      dp = (if (maxDp s.params s.cfg.bw : Int) < dpNorm then (maxDp s.params s.cfg.bw : Int) else dpNorm) ∧
      df = (if s.cfg.mode = 0 then dp * (s.params.fs / s.params.ua : Nat)
        else -(dp * (s.params.fs / s.params.ua : Nat))) ∧
      t.prevPhase.toInt = (if (maxDp s.params s.cfg.bw : Int) < dpNorm then
        Int.bmod (phase - (dpNorm - maxDp s.params s.cfg.bw)) (2 ^ 32) else phase) ∧
      (-2 ^ 31 ≤ df → df < 2 ^ 31 → t.pendDf.toInt = df)

/-- R176: USB and LSB ticks from the same state agree in everything but the delta and the registers computed from it, and the
deltas are negatives of each other. Premises: the remembered phase is not above UA_HALF (it is not before a wrap, R138) and F_S
fits 32 signed bits. -/
def Obligations.UsbAndLsbMirror : Prop :=
  ∀ (s : State) (x : BitVec 16) (c : Cfg), s.fsm = .transmit → s.params.Admissible → s.params.fs < 2 ^ 31 →
    s.prevPhase.toInt ≤ (s.params.ua / 2 : Nat) →
    ∃ t u, exec (.tick x) { s with cfg := { c with mode := 0 } } = .next t ∧
      exec (.tick x) { s with cfg := { c with mode := 1 } } = .next u ∧
      u = { t with cfg := u.cfg, pendDf := u.pendDf, synthRegs := u.synthRegs } ∧
      u.pendDf.toInt = -t.pendDf.toInt

/-- R114, R94, R20 and the writers named by R21 to R39: which events, in which state and mode, write each register; every register
not named for an event is unchanged by it. -/
def Obligations.RegisterWriters : Prop :=
  ∀ (i : Instr) (s t : State), exec i s = .next t →
    let ssb := ∃ x, i = .tick x ∧ s.fsm = .transmit ∧ (s.cfg.mode = 0 ∨ s.cfg.mode = 1)
    let cw := ∃ x, i = .tick x ∧ s.fsm = .transmit ∧ s.cfg.mode = 4
    let tick := ∃ x, i = .tick x ∧ s.fsm = .transmit
    (t.fsm ≠ s.fsm → i = .pttOn ∨ i = .pttOff ∨ i = .reset) ∧
    (t.cfg ≠ s.cfg → i = .reset ∨ ∃ m b d v, i = .cfg m b d v) ∧
    (t.err ≠ s.err → i = .reset ∨ ∃ m b d v, i = .cfg m b d v) ∧
    (t.busErr ≠ s.busErr → i = .reset ∨ i = .berr) ∧
    (t.oscSin ≠ s.oscSin ∨ t.oscCos ≠ s.oscCos ∨ t.stOut ≠ s.stOut → i = .reset ∨ cw) ∧
    (t.hpfDc ≠ s.hpfDc ∨ t.v ≠ s.v ∨ t.prevPhase ≠ s.prevPhase → i = .reset ∨ ssb) ∧
    (t.gateCnt ≠ s.gateCnt → i = .reset ∨ i = .pttOn ∨ i = .pttOff ∨ ssb) ∧
    (t.rampIdx ≠ s.rampIdx → i = .reset ∨ i = .pttOn ∨ i = .pttOff ∨ cw) ∧
    (t.carEn ≠ s.carEn ∨ t.carReg ≠ s.carReg → i = .reset ∨ i = .pttOn ∨ i = .pttOff ∨ tick) ∧
    (t.pendAmp ≠ s.pendAmp ∨ t.pendDf ≠ s.pendDf ∨ t.synthRegs ≠ s.synthRegs ∨ t.ampOut ≠ s.ampOut →
      i = .reset ∨ i = .pttOff ∨ tick) ∧
    (t.freeCtr ≠ s.freeCtr → ssb) ∧ t.params = s.params ∧ t.inputs = s.inputs

/-- R24, R39: the error flag is sticky and the counter never falls but by RESET, and no rule of the transmit chain reads either: a
tick, a gate event or a NOP does the same whatever they hold. -/
def Obligations.DiagnosticsStickyAndUnread : Prop :=
  (∀ (i : Instr) (s t : State), exec i s = .next t → i ≠ .reset →
    (s.err = true → t.err = true) ∧ s.busErr.toNat ≤ t.busErr.toNat) ∧
  (∀ (i : Instr) (s : State) (e : Bool) (n : BitVec 16),
    (i = .nop ∨ i = .pttOn ∨ i = .pttOff ∨ ∃ x, i = .tick x) →
    ∃ t, exec i s = .next t ∧ exec i { s with err := e, busErr := n } = .next { t with err := e, busErr := n })

/-- R94: the oscillator and the side tone never affect the transmitted amplitude, frequency or carrier: after any instruction, what
they hold shows in no other register, and, a read by the host apart, in no output event but the side-tone write. -/
def Obligations.OscillatorIsIsolated : Prop :=
  ∀ (i : Instr) (s : State) (a b : BitVec 8) (l : Byte),
    ∃ t u, exec i s = .next t ∧ exec i { s with oscSin := a, oscCos := b, stOut := l } = .next u ∧
      u = { t with oscSin := u.oscSin, oscCos := u.oscCos, stOut := u.stOut, out := u.out } ∧
      ((∀ idx, i ≠ .rd idx) → u.out.filter OutEvent.notSideTone = t.out.filter OutEvent.notSideTone)

/-- R18, R200: no event ever ends in a fault or a refusal. -/
def Obligations.NoEventStopsTheMachine : Prop :=
  (∀ (i : Instr) (s : State), ∃ t, exec i s = .next t) ∧ (∀ s : State, ∃ t, step s = .next t)

/-! ## The components over many ticks -/

/-- R6: the derived constants. -/
def Obligations.DerivedConstants : Prop :=
  (∀ P : Params, ratio P = P.fs / P.ua ∧ atanA P = P.ua / 8 ∧ atanB P = P.ua / P.atanDen ∧
    uaHalf P = P.ua / 2 ∧ uaQuarter P = P.ua / 4 ∧
    maxDp P .full = P.ua ∧ maxDp P .half = P.ua / 2 ∧ maxDp P .quarter = P.ua / 4) ∧
  ratio Params.p0 = 8 ∧ atanA Params.p0 = 75 ∧ atanB Params.p0 = 27 ∧
  uaHalf Params.p0 = 300 ∧ uaQuarter Params.p0 = 150

/-- R106: the one-octant polynomial and its range; its value at 0 and at 45 degrees. -/
def Obligations.AtanOctantRange : Prop :=
  ∀ (P : Params) (n d : Nat), P.Admissible → n ≤ d → 0 < d →
    (atanOct P n d : Int) = (atanA P + atanB P - ((atanB P * n) / d : Nat)) * n / d ∧
    atanOct P n d ≤ atanA P ∧ atanOct P 0 d = 0 ∧ atanOct P d d = atanA P

/-- R107: the range of the phase estimate and its values on the axes. -/
def Obligations.PhaseEstimateRangeAndAxes : Prop :=
  ∀ (P : Params) (q i : Int), P.Admissible →
    -(uaHalf P : Int) ≤ arctan3 P q i ∧ arctan3 P q i ≤ uaHalf P ∧
    (q = 0 → 0 ≤ i → arctan3 P q i = 0) ∧ (q = 0 → i < 0 → arctan3 P q i = uaHalf P) ∧
    (0 < q → i = 0 → arctan3 P q i = uaQuarter P) ∧ (q < 0 → i = 0 → arctan3 P q i = -(uaQuarter P : Int))

/-- R138, R139, R142: absent the wrap of R141, the emitted delta lies in 0..MAX_DP and the remembered phase moves by exactly the
emitted delta, less one full circle on the ticks that added one. -/
def Obligations.LimiterEmitsWithinRange : Prop :=
  ∀ (P : Params) (bw : Bandwidth) (phase prev : Int), P.Admissible →
    -(uaHalf P : Int) ≤ phase → phase ≤ uaHalf P → -2 ^ 31 + 2 * P.ua ≤ prev → prev ≤ uaHalf P →
    0 ≤ prlDelta P bw phase prev ∧ prlDelta P bw phase prev ≤ maxDp P bw ∧
    prlPrev P bw phase prev = prev + prlDelta P bw phase prev - (if phase - prev < 0 then (P.ua : Int) else 0) ∧
    prlPrev P bw phase prev ≤ phase

/-- R142: over any number of SSB ticks, each with the bandwidth of its own snapshot, as long as no wrap is near: every emitted
delta lies in 0..MAX_DP, the remembered phase moves by it less the circle added, so the deltas add up to the phase advance plus one
full circle for each tick that added one; and what is still owed, `rest`, is 0 after a tick that was not clamped. `f` is the
remembered phase before each tick. -/
def Obligations.LimiterConservesPhase : Prop :=
  ∀ (P : Params) (bws : Nat → Bandwidth) (phases : Nat → Int) (f : Nat → Int) (n : Nat), P.Admissible →
    (∀ k, -(uaHalf P : Int) ≤ phases k ∧ phases k ≤ uaHalf P) → f 0 ≤ uaHalf P →
    (∀ k, k < n → -2 ^ 31 + 2 * P.ua ≤ f k) → (∀ k, f (k + 1) = prlPrev P (bws k) (phases k) (f k)) →
    (∀ k, k < n →
      0 ≤ prlDelta P (bws k) (phases k) (f k) ∧ prlDelta P (bws k) (phases k) (f k) ≤ maxDp P (bws k) ∧
      f (k + 1) = f k + prlDelta P (bws k) (phases k) (f k) - (if phases k - f k < 0 then (P.ua : Int) else 0) ∧
      ∃ rest : Int, 0 ≤ rest ∧ f (k + 1) = phases k - rest ∧
        (prlDelta P (bws k) (phases k) (f k) < maxDp P (bws k) → rest = 0)) ∧
    ((List.range n).map fun k => prlDelta P (bws k) (phases k) (f k)).sum =
      f n - f 0 + P.ua * (((List.range n).filter fun k => decide (phases k - f k < 0)).length : Int)

/-- R148: the hang after the last trigger: HANG_MAX - 1 after a continuing trigger, HANG_MAX after a first one, one less on each
tick without a trigger. -/
def Obligations.HangTime : Prop :=
  ∀ (H : Nat) (c : BitVec 16) (n : Nat), 2 ≤ H → H ≤ 65535 →
    (c ≠ 0 → ((gateNext H false)^[n] (gateNext H true c)).toNat = H - 1 - n) ∧
    (c = 0 → ((gateNext H false)^[n] (gateNext H true c)).toNat = H - n)

/-- R129, R186: the whole rise of the CW envelope: after n ticks from an armed ramp the index is 31 - n and the level is that of
the weight read, full scale from the 31st tick on. -/
def Obligations.CwRiseReachesFullScale : Prop :=
  ∀ (s : State) (xs : List (BitVec 16)), s.fsm = .transmit → s.cfg.mode = 4 → s.rampIdx = 31 →
    s.params.Admissible → xs ≠ [] →
    ∃ t, execAll (xs.map .tick) s = .next t ∧ t.rampIdx.toNat = 31 - xs.length ∧
      (∀ k : Fin 31, k.val + xs.length = 31 →
        t.pendAmp.toNat = (s.params.ramp.get k).toNat * (s.params.lut.get 255).toNat / 255) ∧
      (31 ≤ xs.length → t.pendAmp = s.params.lut.get 255)

/-- R129: the levels of the rise never fall, and strictly rise when full scale is 255. -/
def Obligations.CwLevelsRise : Prop :=
  ∀ (P : Params) (j k : Fin 31), P.Admissible → j < k →
    (rampLevel P (P.ramp.get k).toNat).toNat ≤ (rampLevel P (P.ramp.get j).toNat).toNat ∧
    (P.lut.get 255 = 255 →
      (rampLevel P (P.ramp.get k).toNat).toNat < (rampLevel P (P.ramp.get j).toNat).toNat)

/-- R95: with P0 the oscillator's orbit has period 166, stays within 123 in magnitude and never reaches (0, 0). -/
def Obligations.OscillatorOrbitWithP0 : Prop :=
  ∀ (s : State) (n : Nat), s.params = Params.p0 → s.oscSin = 0 → s.oscCos = 112 →
    (oscStep^[n + 166] s).oscSin = (oscStep^[n] s).oscSin ∧ (oscStep^[n + 166] s).oscCos = (oscStep^[n] s).oscCos ∧
    |(oscStep^[n] s).oscSin.toInt| ≤ 123 ∧ |(oscStep^[n] s).oscCos.toInt| ≤ 123 ∧
    ¬ ((oscStep^[n] s).oscSin = 0 ∧ (oscStep^[n] s).oscCos = 0)

/-- R101, R188: on zero input the slow average loses magnitude on every tick until it is exactly 0, and stays there. -/
def Obligations.SlowAverageDecaysToZero : Prop :=
  ∀ (P : Params) (dc : Int), (hpfAverage P 0 dc).natAbs ≤ dc.natAbs - 1 ∧ hpfAverage P 0 0 = 0

/-- R188: on silence, in an SSB mode, the transmitter goes quiet within a bounded number of ticks and stays quiet: the average and
the line are zero, the gate is OFF, the pending amplitude and the amplitude output are 0 and the carrier observable is off. -/
def Obligations.SilenceGoesQuiet : Prop :=
  ∀ (s : State) (n : Nat), Inv s → s.fsm = .transmit → (s.cfg.mode = 0 ∨ s.cfg.mode = 1) →
    32768 + 15 + s.params.hangMax ≤ n →
    ∃ t, execAll (List.replicate n (.tick 0)) s = .next t ∧ t.hpfDc = 0 ∧ (∀ e ∈ t.v.toList, e = 0) ∧
      t.gateCnt = 0 ∧ t.pendAmp = 0 ∧ t.ampOut = 0 ∧ t.carEn = false

/-- R188: on silence, in an SSB mode, the phase delta too reaches 0, once the residual is paid off, and the state is then the steady
one, in which a silent tick changes no register and emits the unshifted carrier and a zero amplitude. The residual owed when the
line becomes zero is at most what `prev_phase` owes at the start and one circle for each tick until then; it is paid at `MAX_DP` per
tick. Premise: the remembered phase is not above UA_HALF (R138) and far from the wrap of R141. -/
def Obligations.SilenceReachesSteadyState : Prop :=
  ∀ (s : State) (n : Nat), Inv s → s.fsm = .transmit → (s.cfg.mode = 0 ∨ s.cfg.mode = 1) →
    -2 ^ 29 ≤ s.prevPhase.toInt → s.prevPhase.toInt ≤ uaHalf s.params →
    32785 + s.params.hangMax + (s.prevPhase.toInt.natAbs + 32783 * s.params.ua) / maxDp s.params s.cfg.bw ≤ n →
    ∃ t, execAll (List.replicate n (.tick 0)) s = .next t ∧ t.pendDf = 0 ∧ t.prevPhase = 0 ∧
      t.synthRegs = regCalc s.params 0 ∧ t.ampOut = 0 ∧ t.carEn = false ∧
      exec (.tick 0) t = .next { t with out := [.bulkWrite (regCalc s.params 0), .ampWrite 0] }

/-- R188, R144: in the steady state a silent tick changes no register and emits the bulk write of the unshifted carrier and a zero
amplitude. -/
def Obligations.SilentSteadyState : Prop :=
  ∀ s : State, s.fsm = .transmit → (s.cfg.mode = 0 ∨ s.cfg.mode = 1) → s.hpfDc = 0 → (∀ e ∈ s.v.toList, e = 0) →
    s.prevPhase = 0 → s.gateCnt = 0 → s.carEn = false → s.pendAmp = 0 → s.ampOut = 0 → s.pendDf = 0 →
    s.synthRegs = regCalc s.params 0 →
    exec (.tick 0) s = .next { s with out := [.bulkWrite (regCalc s.params 0), .ampWrite 0] }

/-- R186: the one-tick pipeline: a tick sends what the tick before it computed, and the first one after PTT_ON sends the unshifted
carrier and amplitude 0. -/
def Obligations.PipelineDelaysOneTick : Prop :=
  (∀ (s : State) (x y : BitVec 16), s.fsm = .transmit →
    ∃ t u rest, exec (.tick x) s = .next t ∧ exec (.tick y) t = .next u ∧ u.ampOut = t.pendAmp ∧
      u.out = [.bulkWrite (regCalc t.params t.pendDf), .ampWrite t.pendAmp] ++ rest) ∧
  (∀ (s : State) (x : BitVec 16), Inv s → s.fsm = .idle →
    ∃ t u rest, exec .pttOn s = .next t ∧ exec (.tick x) t = .next u ∧
      u.out = [.bulkWrite (regCalc s.params 0), .ampWrite 0] ++ rest)

/-! ## Parameters and invariants -/

/-- R5, R120, R121, R127: the default records meet the constraints. -/
def Obligations.DefaultRecordsAreAdmissible : Prop := Params.p0.Admissible ∧ Params.p1.Admissible

/-- R160: RegCalc gives SYNTH_NREGS bytes. -/
def Obligations.RegCalcLength : Prop :=
  ∀ (P : Params) (df : BitVec 32), (regCalc P df).length = P.synthNregs

/-- R49 at reset. -/
def Obligations.InvariantsHoldAtReset : Prop := Inv State.reset

/-- R49: every step keeps the invariants, from every state that meets them. -/
def Obligations.InvariantsKeptByEveryStep : Prop :=
  ∀ s t : State, Inv s → step s = .next t → Inv t
end

