-- ==== Sys2Proof/Laws/Arith.lean ====
section
/-! SUPPORT. What the integer operators of Machine/Operands.lean compute, and when a store in a register is exact
(spec/00_scope.md R8 to R13). -/

namespace Sys2Proof.Machine

/-- R9's `tdiv` is the library's truncating division. -/
theorem tdiv_eq_int_tdiv (a : Int) (b : Nat) : tdiv a b = Int.tdiv a b := by
  unfold tdiv
  rcases a with n | n
  · rcases Nat.eq_zero_or_pos n with rfl | hn
    · simp
    · have : (Int.ofNat n).sign = 1 := Int.sign_eq_one_of_pos (by simpa using hn)
      rw [this]; simp [Int.tdiv]
  · simp [Int.tdiv, Int.sign]

/-- A quotient truncated toward zero has no larger magnitude than its dividend allows. -/
theorem natAbs_tdiv (a : Int) (b : Nat) : (tdiv a b).natAbs = a.natAbs / b := by
  rw [tdiv_eq_int_tdiv]; simp only [Int.natAbs_tdiv, Int.natAbs_natCast]; rfl

theorem tdiv_nonneg {a : Int} (b : Nat) (h : 0 ≤ a) : 0 ≤ tdiv a b := by
  unfold tdiv
  rcases h.lt_or_eq with h | h
  · rw [Int.sign_eq_one_of_pos h]; positivity
  · subst h; simp

theorem tdiv_nonpos {a : Int} (b : Nat) (h : a ≤ 0) : tdiv a b ≤ 0 := by
  unfold tdiv
  rcases h.lt_or_eq with h | h
  · rw [Int.sign_eq_neg_one_of_neg h, neg_one_mul, neg_nonpos]; positivity
  · subst h; simp

/-- Truncation keeps a value between bounds on both sides of 0. -/
theorem tdiv_mem_of_mem {a lo hi : Int} {b : Nat} (hlo : lo ≤ 0) (hhi : 0 ≤ hi)
    (h1 : lo * b ≤ a) (h2 : a ≤ hi * b) : lo ≤ tdiv a b ∧ tdiv a b ≤ hi := by
  have habs := natAbs_tdiv a b
  rcases le_total 0 a with ha | ha
  · have hq := tdiv_nonneg b ha
    have : a.natAbs / b ≤ hi.toNat := by
      apply Nat.div_le_of_le_mul
      zify
      rw [abs_of_nonneg ha, Int.toNat_of_nonneg hhi]
      linarith [mul_comm hi (b : Int)]
    omega
  · have hq := tdiv_nonpos b ha
    have : a.natAbs / b ≤ (-lo).toNat := by
      apply Nat.div_le_of_le_mul
      zify
      rw [abs_of_nonpos ha, Int.toNat_of_nonneg (by omega)]
      linarith [mul_comm lo (b : Int)]
    omega

/-- The store of a value that fits is exact (R8). -/
theorem store_toInt_of_fits {n : Nat} (hn : 0 < n) {v : Int} (h : fitsSigned n v = true) :
    (store n v).toInt = v := by
  have h' := of_decide_eq_true h
  obtain ⟨m, rfl⟩ : ∃ m, n = m + 1 := ⟨n - 1, by omega⟩
  simp only [Nat.add_sub_cancel] at h'
  rw [store, BitVec.toInt_ofInt, Int.bmod_eq_of_le]
  · have : ((2 ^ (m + 1) : Nat) : Int) / 2 = 2 ^ m := by push_cast; rw [pow_succ]; omega
    omega
  · have : (((2 ^ (m + 1) : Nat) : Int) + 1) / 2 = 2 ^ m := by push_cast; rw [pow_succ]; omega
    omega

/-- Any store reads back as the two's-complement wrap of the value (R11). -/
theorem store_toInt (n : Nat) (v : Int) : (store n v).toInt = wrapN n v := by
  rw [store, BitVec.toInt_ofInt, wrapN]

/-- A value already wrapped is stored as it is. -/
theorem store_wrapN_toInt (n : Nat) (v : Int) : (store n (wrapN n v)).toInt = wrapN n v := by
  rw [store_toInt, wrapN, wrapN, Int.bmod_bmod]

/-- `clamp(a, 0, 255)` as an index (R111). -/
theorem clampIndex_val (a : Int) : ((clampIndex a).val : Int) = max 0 (min 255 a) := by
  simp only [clampIndex, clamp]; omega

/-- `min(255, a)` as an index (R122). -/
theorem clipIndex_val (a : Nat) : (clipIndex a).val = min 255 a := rfl

/-- `>>a` is the floor of the division (R13). -/
theorem sar_eq_ediv (a : Int) (n : Nat) : sar a n = a / 2 ^ n := by
  rw [sar, Int.fdiv_eq_ediv_of_nonneg]; positivity

/-- Fields side by side as a number: the left one above the bits of the right one (R14). -/
theorem toNat_append_add {n m : Nat} (a : BitVec n) (b : BitVec m) : (a ++ b).toNat = a.toNat * 2 ^ m + b.toNat := by
  rw [BitVec.toNat_append, ← Nat.shiftLeft_add_eq_or_of_lt b.isLt, Nat.shiftLeft_eq]

end Sys2Proof.Machine
end

