-- ==== Sys2Proof/Laws/State.lean ====
section
/-! SUPPORT. For each named update of the state, the value of each field after it: true by rfl, in the simp set, so that no
proof unfolds a record update. -/

namespace Sys2Proof.Machine

variable (s : State)

@[simp] theorem beginEvent_fsm : (beginEvent s).fsm = s.fsm := rfl
@[simp] theorem beginEvent_cfg : (beginEvent s).cfg = s.cfg := rfl
@[simp] theorem beginEvent_err : (beginEvent s).err = s.err := rfl
@[simp] theorem beginEvent_oscSin : (beginEvent s).oscSin = s.oscSin := rfl
@[simp] theorem beginEvent_oscCos : (beginEvent s).oscCos = s.oscCos := rfl
@[simp] theorem beginEvent_hpfDc : (beginEvent s).hpfDc = s.hpfDc := rfl
@[simp] theorem beginEvent_v : (beginEvent s).v = s.v := rfl
@[simp] theorem beginEvent_prevPhase : (beginEvent s).prevPhase = s.prevPhase := rfl
@[simp] theorem beginEvent_gateCnt : (beginEvent s).gateCnt = s.gateCnt := rfl
@[simp] theorem beginEvent_rampIdx : (beginEvent s).rampIdx = s.rampIdx := rfl
@[simp] theorem beginEvent_carEn : (beginEvent s).carEn = s.carEn := rfl
@[simp] theorem beginEvent_carReg : (beginEvent s).carReg = s.carReg := rfl
@[simp] theorem beginEvent_pendAmp : (beginEvent s).pendAmp = s.pendAmp := rfl
@[simp] theorem beginEvent_pendDf : (beginEvent s).pendDf = s.pendDf := rfl
@[simp] theorem beginEvent_synthRegs : (beginEvent s).synthRegs = s.synthRegs := rfl
@[simp] theorem beginEvent_ampOut : (beginEvent s).ampOut = s.ampOut := rfl
@[simp] theorem beginEvent_stOut : (beginEvent s).stOut = s.stOut := rfl
@[simp] theorem beginEvent_busErr : (beginEvent s).busErr = s.busErr := rfl
@[simp] theorem beginEvent_params : (beginEvent s).params = s.params := rfl
@[simp] theorem beginEvent_inputs : (beginEvent s).inputs = s.inputs := rfl
@[simp] theorem beginEvent_out : (beginEvent s).out = [] := rfl
@[simp] theorem beginEvent_freeCtr : (beginEvent s).freeCtr = s.freeCtr := rfl

@[simp] theorem emit_fsm (e : OutEvent) : (emit e s).fsm = s.fsm := rfl
@[simp] theorem emit_cfg (e : OutEvent) : (emit e s).cfg = s.cfg := rfl
@[simp] theorem emit_err (e : OutEvent) : (emit e s).err = s.err := rfl
@[simp] theorem emit_oscSin (e : OutEvent) : (emit e s).oscSin = s.oscSin := rfl
@[simp] theorem emit_oscCos (e : OutEvent) : (emit e s).oscCos = s.oscCos := rfl
@[simp] theorem emit_hpfDc (e : OutEvent) : (emit e s).hpfDc = s.hpfDc := rfl
@[simp] theorem emit_v (e : OutEvent) : (emit e s).v = s.v := rfl
@[simp] theorem emit_prevPhase (e : OutEvent) : (emit e s).prevPhase = s.prevPhase := rfl
@[simp] theorem emit_gateCnt (e : OutEvent) : (emit e s).gateCnt = s.gateCnt := rfl
@[simp] theorem emit_rampIdx (e : OutEvent) : (emit e s).rampIdx = s.rampIdx := rfl
@[simp] theorem emit_carEn (e : OutEvent) : (emit e s).carEn = s.carEn := rfl
@[simp] theorem emit_carReg (e : OutEvent) : (emit e s).carReg = s.carReg := rfl
@[simp] theorem emit_pendAmp (e : OutEvent) : (emit e s).pendAmp = s.pendAmp := rfl
@[simp] theorem emit_pendDf (e : OutEvent) : (emit e s).pendDf = s.pendDf := rfl
@[simp] theorem emit_synthRegs (e : OutEvent) : (emit e s).synthRegs = s.synthRegs := rfl
@[simp] theorem emit_ampOut (e : OutEvent) : (emit e s).ampOut = s.ampOut := rfl
@[simp] theorem emit_stOut (e : OutEvent) : (emit e s).stOut = s.stOut := rfl
@[simp] theorem emit_busErr (e : OutEvent) : (emit e s).busErr = s.busErr := rfl
@[simp] theorem emit_params (e : OutEvent) : (emit e s).params = s.params := rfl
@[simp] theorem emit_inputs (e : OutEvent) : (emit e s).inputs = s.inputs := rfl
@[simp] theorem emit_out (e : OutEvent) : (emit e s).out = s.out ++ [e] := rfl
@[simp] theorem emit_freeCtr (e : OutEvent) : (emit e s).freeCtr = s.freeCtr := rfl

@[simp] theorem ampWrite_fsm (l : Byte) : (ampWrite l s).fsm = s.fsm := rfl
@[simp] theorem ampWrite_cfg (l : Byte) : (ampWrite l s).cfg = s.cfg := rfl
@[simp] theorem ampWrite_err (l : Byte) : (ampWrite l s).err = s.err := rfl
@[simp] theorem ampWrite_oscSin (l : Byte) : (ampWrite l s).oscSin = s.oscSin := rfl
@[simp] theorem ampWrite_oscCos (l : Byte) : (ampWrite l s).oscCos = s.oscCos := rfl
@[simp] theorem ampWrite_hpfDc (l : Byte) : (ampWrite l s).hpfDc = s.hpfDc := rfl
@[simp] theorem ampWrite_v (l : Byte) : (ampWrite l s).v = s.v := rfl
@[simp] theorem ampWrite_prevPhase (l : Byte) : (ampWrite l s).prevPhase = s.prevPhase := rfl
@[simp] theorem ampWrite_gateCnt (l : Byte) : (ampWrite l s).gateCnt = s.gateCnt := rfl
@[simp] theorem ampWrite_rampIdx (l : Byte) : (ampWrite l s).rampIdx = s.rampIdx := rfl
@[simp] theorem ampWrite_carEn (l : Byte) : (ampWrite l s).carEn = s.carEn := rfl
@[simp] theorem ampWrite_carReg (l : Byte) : (ampWrite l s).carReg = s.carReg := rfl
@[simp] theorem ampWrite_pendAmp (l : Byte) : (ampWrite l s).pendAmp = s.pendAmp := rfl
@[simp] theorem ampWrite_pendDf (l : Byte) : (ampWrite l s).pendDf = s.pendDf := rfl
@[simp] theorem ampWrite_synthRegs (l : Byte) : (ampWrite l s).synthRegs = s.synthRegs := rfl
@[simp] theorem ampWrite_ampOut (l : Byte) : (ampWrite l s).ampOut = l := rfl
@[simp] theorem ampWrite_stOut (l : Byte) : (ampWrite l s).stOut = s.stOut := rfl
@[simp] theorem ampWrite_busErr (l : Byte) : (ampWrite l s).busErr = s.busErr := rfl
@[simp] theorem ampWrite_params (l : Byte) : (ampWrite l s).params = s.params := rfl
@[simp] theorem ampWrite_inputs (l : Byte) : (ampWrite l s).inputs = s.inputs := rfl
@[simp] theorem ampWrite_out (l : Byte) : (ampWrite l s).out = s.out ++ [.ampWrite l] := rfl
@[simp] theorem ampWrite_freeCtr (l : Byte) : (ampWrite l s).freeCtr = s.freeCtr := rfl

@[simp] theorem carrierEnableWrite_fsm (b : Bool) : (carrierEnableWrite b s).fsm = s.fsm := rfl
@[simp] theorem carrierEnableWrite_cfg (b : Bool) : (carrierEnableWrite b s).cfg = s.cfg := rfl
@[simp] theorem carrierEnableWrite_err (b : Bool) : (carrierEnableWrite b s).err = s.err := rfl
@[simp] theorem carrierEnableWrite_oscSin (b : Bool) : (carrierEnableWrite b s).oscSin = s.oscSin := rfl
@[simp] theorem carrierEnableWrite_oscCos (b : Bool) : (carrierEnableWrite b s).oscCos = s.oscCos := rfl
@[simp] theorem carrierEnableWrite_hpfDc (b : Bool) : (carrierEnableWrite b s).hpfDc = s.hpfDc := rfl
@[simp] theorem carrierEnableWrite_v (b : Bool) : (carrierEnableWrite b s).v = s.v := rfl
@[simp] theorem carrierEnableWrite_prevPhase (b : Bool) : (carrierEnableWrite b s).prevPhase = s.prevPhase := rfl
@[simp] theorem carrierEnableWrite_gateCnt (b : Bool) : (carrierEnableWrite b s).gateCnt = s.gateCnt := rfl
@[simp] theorem carrierEnableWrite_rampIdx (b : Bool) : (carrierEnableWrite b s).rampIdx = s.rampIdx := rfl
@[simp] theorem carrierEnableWrite_carEn (b : Bool) : (carrierEnableWrite b s).carEn = s.carEn := rfl
@[simp] theorem carrierEnableWrite_carReg (b : Bool) : (carrierEnableWrite b s).carReg = b := rfl
@[simp] theorem carrierEnableWrite_pendAmp (b : Bool) : (carrierEnableWrite b s).pendAmp = s.pendAmp := rfl
@[simp] theorem carrierEnableWrite_pendDf (b : Bool) : (carrierEnableWrite b s).pendDf = s.pendDf := rfl
@[simp] theorem carrierEnableWrite_synthRegs (b : Bool) : (carrierEnableWrite b s).synthRegs = s.synthRegs := rfl
@[simp] theorem carrierEnableWrite_ampOut (b : Bool) : (carrierEnableWrite b s).ampOut = s.ampOut := rfl
@[simp] theorem carrierEnableWrite_stOut (b : Bool) : (carrierEnableWrite b s).stOut = s.stOut := rfl
@[simp] theorem carrierEnableWrite_busErr (b : Bool) : (carrierEnableWrite b s).busErr = s.busErr := rfl
@[simp] theorem carrierEnableWrite_params (b : Bool) : (carrierEnableWrite b s).params = s.params := rfl
@[simp] theorem carrierEnableWrite_inputs (b : Bool) : (carrierEnableWrite b s).inputs = s.inputs := rfl
@[simp] theorem carrierEnableWrite_out (b : Bool) : (carrierEnableWrite b s).out = s.out ++ [.carrierEnableWrite b] := rfl
@[simp] theorem carrierEnableWrite_freeCtr (b : Bool) : (carrierEnableWrite b s).freeCtr = s.freeCtr := rfl

@[simp] theorem sideToneWrite_fsm (l : Byte) : (sideToneWrite l s).fsm = s.fsm := rfl
@[simp] theorem sideToneWrite_cfg (l : Byte) : (sideToneWrite l s).cfg = s.cfg := rfl
@[simp] theorem sideToneWrite_err (l : Byte) : (sideToneWrite l s).err = s.err := rfl
@[simp] theorem sideToneWrite_oscSin (l : Byte) : (sideToneWrite l s).oscSin = s.oscSin := rfl
@[simp] theorem sideToneWrite_oscCos (l : Byte) : (sideToneWrite l s).oscCos = s.oscCos := rfl
@[simp] theorem sideToneWrite_hpfDc (l : Byte) : (sideToneWrite l s).hpfDc = s.hpfDc := rfl
@[simp] theorem sideToneWrite_v (l : Byte) : (sideToneWrite l s).v = s.v := rfl
@[simp] theorem sideToneWrite_prevPhase (l : Byte) : (sideToneWrite l s).prevPhase = s.prevPhase := rfl
@[simp] theorem sideToneWrite_gateCnt (l : Byte) : (sideToneWrite l s).gateCnt = s.gateCnt := rfl
@[simp] theorem sideToneWrite_rampIdx (l : Byte) : (sideToneWrite l s).rampIdx = s.rampIdx := rfl
@[simp] theorem sideToneWrite_carEn (l : Byte) : (sideToneWrite l s).carEn = s.carEn := rfl
@[simp] theorem sideToneWrite_carReg (l : Byte) : (sideToneWrite l s).carReg = s.carReg := rfl
@[simp] theorem sideToneWrite_pendAmp (l : Byte) : (sideToneWrite l s).pendAmp = s.pendAmp := rfl
@[simp] theorem sideToneWrite_pendDf (l : Byte) : (sideToneWrite l s).pendDf = s.pendDf := rfl
@[simp] theorem sideToneWrite_synthRegs (l : Byte) : (sideToneWrite l s).synthRegs = s.synthRegs := rfl
@[simp] theorem sideToneWrite_ampOut (l : Byte) : (sideToneWrite l s).ampOut = s.ampOut := rfl
@[simp] theorem sideToneWrite_stOut (l : Byte) : (sideToneWrite l s).stOut = l := rfl
@[simp] theorem sideToneWrite_busErr (l : Byte) : (sideToneWrite l s).busErr = s.busErr := rfl
@[simp] theorem sideToneWrite_params (l : Byte) : (sideToneWrite l s).params = s.params := rfl
@[simp] theorem sideToneWrite_inputs (l : Byte) : (sideToneWrite l s).inputs = s.inputs := rfl
@[simp] theorem sideToneWrite_out (l : Byte) : (sideToneWrite l s).out = s.out ++ [.sideToneWrite l] := rfl
@[simp] theorem sideToneWrite_freeCtr (l : Byte) : (sideToneWrite l s).freeCtr = s.freeCtr := rfl

@[simp] theorem synthXfer_fsm : (synthXfer s).fsm = s.fsm := rfl
@[simp] theorem synthXfer_cfg : (synthXfer s).cfg = s.cfg := rfl
@[simp] theorem synthXfer_err : (synthXfer s).err = s.err := rfl
@[simp] theorem synthXfer_oscSin : (synthXfer s).oscSin = s.oscSin := rfl
@[simp] theorem synthXfer_oscCos : (synthXfer s).oscCos = s.oscCos := rfl
@[simp] theorem synthXfer_hpfDc : (synthXfer s).hpfDc = s.hpfDc := rfl
@[simp] theorem synthXfer_v : (synthXfer s).v = s.v := rfl
@[simp] theorem synthXfer_prevPhase : (synthXfer s).prevPhase = s.prevPhase := rfl
@[simp] theorem synthXfer_gateCnt : (synthXfer s).gateCnt = s.gateCnt := rfl
@[simp] theorem synthXfer_rampIdx : (synthXfer s).rampIdx = s.rampIdx := rfl
@[simp] theorem synthXfer_carEn : (synthXfer s).carEn = s.carEn := rfl
@[simp] theorem synthXfer_carReg : (synthXfer s).carReg = s.carReg := rfl
@[simp] theorem synthXfer_pendAmp : (synthXfer s).pendAmp = s.pendAmp := rfl
@[simp] theorem synthXfer_pendDf : (synthXfer s).pendDf = s.pendDf := rfl
@[simp] theorem synthXfer_synthRegs : (synthXfer s).synthRegs = s.synthRegs := rfl
@[simp] theorem synthXfer_ampOut : (synthXfer s).ampOut = s.ampOut := rfl
@[simp] theorem synthXfer_stOut : (synthXfer s).stOut = s.stOut := rfl
@[simp] theorem synthXfer_busErr : (synthXfer s).busErr = s.busErr := rfl
@[simp] theorem synthXfer_params : (synthXfer s).params = s.params := rfl
@[simp] theorem synthXfer_inputs : (synthXfer s).inputs = s.inputs := rfl
@[simp] theorem synthXfer_out : (synthXfer s).out = s.out ++ [.bulkWrite s.synthRegs] := rfl
@[simp] theorem synthXfer_freeCtr : (synthXfer s).freeCtr = s.freeCtr := rfl

@[simp] theorem synthCalc_fsm : (synthCalc s).fsm = s.fsm := rfl
@[simp] theorem synthCalc_cfg : (synthCalc s).cfg = s.cfg := rfl
@[simp] theorem synthCalc_err : (synthCalc s).err = s.err := rfl
@[simp] theorem synthCalc_oscSin : (synthCalc s).oscSin = s.oscSin := rfl
@[simp] theorem synthCalc_oscCos : (synthCalc s).oscCos = s.oscCos := rfl
@[simp] theorem synthCalc_hpfDc : (synthCalc s).hpfDc = s.hpfDc := rfl
@[simp] theorem synthCalc_v : (synthCalc s).v = s.v := rfl
@[simp] theorem synthCalc_prevPhase : (synthCalc s).prevPhase = s.prevPhase := rfl
@[simp] theorem synthCalc_gateCnt : (synthCalc s).gateCnt = s.gateCnt := rfl
@[simp] theorem synthCalc_rampIdx : (synthCalc s).rampIdx = s.rampIdx := rfl
@[simp] theorem synthCalc_carEn : (synthCalc s).carEn = s.carEn := rfl
@[simp] theorem synthCalc_carReg : (synthCalc s).carReg = s.carReg := rfl
@[simp] theorem synthCalc_pendAmp : (synthCalc s).pendAmp = s.pendAmp := rfl
@[simp] theorem synthCalc_pendDf : (synthCalc s).pendDf = s.pendDf := rfl
@[simp] theorem synthCalc_synthRegs : (synthCalc s).synthRegs = regCalc s.params s.pendDf := rfl
@[simp] theorem synthCalc_ampOut : (synthCalc s).ampOut = s.ampOut := rfl
@[simp] theorem synthCalc_stOut : (synthCalc s).stOut = s.stOut := rfl
@[simp] theorem synthCalc_busErr : (synthCalc s).busErr = s.busErr := rfl
@[simp] theorem synthCalc_params : (synthCalc s).params = s.params := rfl
@[simp] theorem synthCalc_inputs : (synthCalc s).inputs = s.inputs := rfl
@[simp] theorem synthCalc_out : (synthCalc s).out = s.out := rfl
@[simp] theorem synthCalc_freeCtr : (synthCalc s).freeCtr = s.freeCtr := rfl

@[simp] theorem ampCommit_fsm : (ampCommit s).fsm = s.fsm := rfl
@[simp] theorem ampCommit_cfg : (ampCommit s).cfg = s.cfg := rfl
@[simp] theorem ampCommit_err : (ampCommit s).err = s.err := rfl
@[simp] theorem ampCommit_oscSin : (ampCommit s).oscSin = s.oscSin := rfl
@[simp] theorem ampCommit_oscCos : (ampCommit s).oscCos = s.oscCos := rfl
@[simp] theorem ampCommit_hpfDc : (ampCommit s).hpfDc = s.hpfDc := rfl
@[simp] theorem ampCommit_v : (ampCommit s).v = s.v := rfl
@[simp] theorem ampCommit_prevPhase : (ampCommit s).prevPhase = s.prevPhase := rfl
@[simp] theorem ampCommit_gateCnt : (ampCommit s).gateCnt = s.gateCnt := rfl
@[simp] theorem ampCommit_rampIdx : (ampCommit s).rampIdx = s.rampIdx := rfl
@[simp] theorem ampCommit_carEn : (ampCommit s).carEn = s.carEn := rfl
@[simp] theorem ampCommit_carReg : (ampCommit s).carReg = s.carReg := rfl
@[simp] theorem ampCommit_pendAmp : (ampCommit s).pendAmp = s.pendAmp := rfl
@[simp] theorem ampCommit_pendDf : (ampCommit s).pendDf = s.pendDf := rfl
@[simp] theorem ampCommit_synthRegs : (ampCommit s).synthRegs = s.synthRegs := rfl
@[simp] theorem ampCommit_ampOut : (ampCommit s).ampOut = s.pendAmp := rfl
@[simp] theorem ampCommit_stOut : (ampCommit s).stOut = s.stOut := rfl
@[simp] theorem ampCommit_busErr : (ampCommit s).busErr = s.busErr := rfl
@[simp] theorem ampCommit_params : (ampCommit s).params = s.params := rfl
@[simp] theorem ampCommit_inputs : (ampCommit s).inputs = s.inputs := rfl
@[simp] theorem ampCommit_out : (ampCommit s).out = s.out ++ [.ampWrite s.pendAmp] := rfl
@[simp] theorem ampCommit_freeCtr : (ampCommit s).freeCtr = s.freeCtr := rfl

@[simp] theorem rearm_fsm : (rearm s).fsm = s.fsm := rfl
@[simp] theorem rearm_cfg : (rearm s).cfg = s.cfg := rfl
@[simp] theorem rearm_err : (rearm s).err = s.err := rfl
@[simp] theorem rearm_oscSin : (rearm s).oscSin = s.oscSin := rfl
@[simp] theorem rearm_oscCos : (rearm s).oscCos = s.oscCos := rfl
@[simp] theorem rearm_hpfDc : (rearm s).hpfDc = s.hpfDc := rfl
@[simp] theorem rearm_v : (rearm s).v = s.v := rfl
@[simp] theorem rearm_prevPhase : (rearm s).prevPhase = s.prevPhase := rfl
@[simp] theorem rearm_gateCnt : (rearm s).gateCnt = 0 := rfl
@[simp] theorem rearm_rampIdx : (rearm s).rampIdx = 31 := rfl
@[simp] theorem rearm_carEn : (rearm s).carEn = s.carEn := rfl
@[simp] theorem rearm_carReg : (rearm s).carReg = s.carReg := rfl
@[simp] theorem rearm_pendAmp : (rearm s).pendAmp = s.pendAmp := rfl
@[simp] theorem rearm_pendDf : (rearm s).pendDf = s.pendDf := rfl
@[simp] theorem rearm_synthRegs : (rearm s).synthRegs = s.synthRegs := rfl
@[simp] theorem rearm_ampOut : (rearm s).ampOut = s.ampOut := rfl
@[simp] theorem rearm_stOut : (rearm s).stOut = s.stOut := rfl
@[simp] theorem rearm_busErr : (rearm s).busErr = s.busErr := rfl
@[simp] theorem rearm_params : (rearm s).params = s.params := rfl
@[simp] theorem rearm_inputs : (rearm s).inputs = s.inputs := rfl
@[simp] theorem rearm_out : (rearm s).out = s.out := rfl
@[simp] theorem rearm_freeCtr : (rearm s).freeCtr = s.freeCtr := rfl

@[simp] theorem clearPending_fsm : (clearPending s).fsm = s.fsm := rfl
@[simp] theorem clearPending_cfg : (clearPending s).cfg = s.cfg := rfl
@[simp] theorem clearPending_err : (clearPending s).err = s.err := rfl
@[simp] theorem clearPending_oscSin : (clearPending s).oscSin = s.oscSin := rfl
@[simp] theorem clearPending_oscCos : (clearPending s).oscCos = s.oscCos := rfl
@[simp] theorem clearPending_hpfDc : (clearPending s).hpfDc = s.hpfDc := rfl
@[simp] theorem clearPending_v : (clearPending s).v = s.v := rfl
@[simp] theorem clearPending_prevPhase : (clearPending s).prevPhase = s.prevPhase := rfl
@[simp] theorem clearPending_gateCnt : (clearPending s).gateCnt = s.gateCnt := rfl
@[simp] theorem clearPending_rampIdx : (clearPending s).rampIdx = s.rampIdx := rfl
@[simp] theorem clearPending_carEn : (clearPending s).carEn = s.carEn := rfl
@[simp] theorem clearPending_carReg : (clearPending s).carReg = s.carReg := rfl
@[simp] theorem clearPending_pendAmp : (clearPending s).pendAmp = 0 := rfl
@[simp] theorem clearPending_pendDf : (clearPending s).pendDf = 0 := rfl
@[simp] theorem clearPending_synthRegs : (clearPending s).synthRegs = regCalc s.params 0 := rfl
@[simp] theorem clearPending_ampOut : (clearPending s).ampOut = s.ampOut := rfl
@[simp] theorem clearPending_stOut : (clearPending s).stOut = s.stOut := rfl
@[simp] theorem clearPending_busErr : (clearPending s).busErr = s.busErr := rfl
@[simp] theorem clearPending_params : (clearPending s).params = s.params := rfl
@[simp] theorem clearPending_inputs : (clearPending s).inputs = s.inputs := rfl
@[simp] theorem clearPending_out : (clearPending s).out = s.out := rfl
@[simp] theorem clearPending_freeCtr : (clearPending s).freeCtr = s.freeCtr := rfl

@[simp] theorem setPendAmp_fsm (l : Byte) : (setPendAmp l s).fsm = s.fsm := rfl
@[simp] theorem setPendAmp_cfg (l : Byte) : (setPendAmp l s).cfg = s.cfg := rfl
@[simp] theorem setPendAmp_err (l : Byte) : (setPendAmp l s).err = s.err := rfl
@[simp] theorem setPendAmp_oscSin (l : Byte) : (setPendAmp l s).oscSin = s.oscSin := rfl
@[simp] theorem setPendAmp_oscCos (l : Byte) : (setPendAmp l s).oscCos = s.oscCos := rfl
@[simp] theorem setPendAmp_hpfDc (l : Byte) : (setPendAmp l s).hpfDc = s.hpfDc := rfl
@[simp] theorem setPendAmp_v (l : Byte) : (setPendAmp l s).v = s.v := rfl
@[simp] theorem setPendAmp_prevPhase (l : Byte) : (setPendAmp l s).prevPhase = s.prevPhase := rfl
@[simp] theorem setPendAmp_gateCnt (l : Byte) : (setPendAmp l s).gateCnt = s.gateCnt := rfl
@[simp] theorem setPendAmp_rampIdx (l : Byte) : (setPendAmp l s).rampIdx = s.rampIdx := rfl
@[simp] theorem setPendAmp_carEn (l : Byte) : (setPendAmp l s).carEn = s.carEn := rfl
@[simp] theorem setPendAmp_carReg (l : Byte) : (setPendAmp l s).carReg = s.carReg := rfl
@[simp] theorem setPendAmp_pendAmp (l : Byte) : (setPendAmp l s).pendAmp = l := rfl
@[simp] theorem setPendAmp_pendDf (l : Byte) : (setPendAmp l s).pendDf = s.pendDf := rfl
@[simp] theorem setPendAmp_synthRegs (l : Byte) : (setPendAmp l s).synthRegs = s.synthRegs := rfl
@[simp] theorem setPendAmp_ampOut (l : Byte) : (setPendAmp l s).ampOut = s.ampOut := rfl
@[simp] theorem setPendAmp_stOut (l : Byte) : (setPendAmp l s).stOut = s.stOut := rfl
@[simp] theorem setPendAmp_busErr (l : Byte) : (setPendAmp l s).busErr = s.busErr := rfl
@[simp] theorem setPendAmp_params (l : Byte) : (setPendAmp l s).params = s.params := rfl
@[simp] theorem setPendAmp_inputs (l : Byte) : (setPendAmp l s).inputs = s.inputs := rfl
@[simp] theorem setPendAmp_out (l : Byte) : (setPendAmp l s).out = s.out := rfl
@[simp] theorem setPendAmp_freeCtr (l : Byte) : (setPendAmp l s).freeCtr = s.freeCtr := rfl

@[simp] theorem setPendDf_fsm (d : Int) : (setPendDf d s).fsm = s.fsm := rfl
@[simp] theorem setPendDf_cfg (d : Int) : (setPendDf d s).cfg = s.cfg := rfl
@[simp] theorem setPendDf_err (d : Int) : (setPendDf d s).err = s.err := rfl
@[simp] theorem setPendDf_oscSin (d : Int) : (setPendDf d s).oscSin = s.oscSin := rfl
@[simp] theorem setPendDf_oscCos (d : Int) : (setPendDf d s).oscCos = s.oscCos := rfl
@[simp] theorem setPendDf_hpfDc (d : Int) : (setPendDf d s).hpfDc = s.hpfDc := rfl
@[simp] theorem setPendDf_v (d : Int) : (setPendDf d s).v = s.v := rfl
@[simp] theorem setPendDf_prevPhase (d : Int) : (setPendDf d s).prevPhase = s.prevPhase := rfl
@[simp] theorem setPendDf_gateCnt (d : Int) : (setPendDf d s).gateCnt = s.gateCnt := rfl
@[simp] theorem setPendDf_rampIdx (d : Int) : (setPendDf d s).rampIdx = s.rampIdx := rfl
@[simp] theorem setPendDf_carEn (d : Int) : (setPendDf d s).carEn = s.carEn := rfl
@[simp] theorem setPendDf_carReg (d : Int) : (setPendDf d s).carReg = s.carReg := rfl
@[simp] theorem setPendDf_pendAmp (d : Int) : (setPendDf d s).pendAmp = s.pendAmp := rfl
@[simp] theorem setPendDf_pendDf (d : Int) : (setPendDf d s).pendDf = store 32 d := rfl
@[simp] theorem setPendDf_synthRegs (d : Int) : (setPendDf d s).synthRegs = s.synthRegs := rfl
@[simp] theorem setPendDf_ampOut (d : Int) : (setPendDf d s).ampOut = s.ampOut := rfl
@[simp] theorem setPendDf_stOut (d : Int) : (setPendDf d s).stOut = s.stOut := rfl
@[simp] theorem setPendDf_busErr (d : Int) : (setPendDf d s).busErr = s.busErr := rfl
@[simp] theorem setPendDf_params (d : Int) : (setPendDf d s).params = s.params := rfl
@[simp] theorem setPendDf_inputs (d : Int) : (setPendDf d s).inputs = s.inputs := rfl
@[simp] theorem setPendDf_out (d : Int) : (setPendDf d s).out = s.out := rfl
@[simp] theorem setPendDf_freeCtr (d : Int) : (setPendDf d s).freeCtr = s.freeCtr := rfl

@[simp] theorem takeIllegalWord_fsm : (takeIllegalWord s).fsm = s.fsm := rfl
@[simp] theorem takeIllegalWord_cfg : (takeIllegalWord s).cfg = s.cfg := rfl
@[simp] theorem takeIllegalWord_err : (takeIllegalWord s).err = true := rfl
@[simp] theorem takeIllegalWord_oscSin : (takeIllegalWord s).oscSin = s.oscSin := rfl
@[simp] theorem takeIllegalWord_oscCos : (takeIllegalWord s).oscCos = s.oscCos := rfl
@[simp] theorem takeIllegalWord_hpfDc : (takeIllegalWord s).hpfDc = s.hpfDc := rfl
@[simp] theorem takeIllegalWord_v : (takeIllegalWord s).v = s.v := rfl
@[simp] theorem takeIllegalWord_prevPhase : (takeIllegalWord s).prevPhase = s.prevPhase := rfl
@[simp] theorem takeIllegalWord_gateCnt : (takeIllegalWord s).gateCnt = s.gateCnt := rfl
@[simp] theorem takeIllegalWord_rampIdx : (takeIllegalWord s).rampIdx = s.rampIdx := rfl
@[simp] theorem takeIllegalWord_carEn : (takeIllegalWord s).carEn = s.carEn := rfl
@[simp] theorem takeIllegalWord_carReg : (takeIllegalWord s).carReg = s.carReg := rfl
@[simp] theorem takeIllegalWord_pendAmp : (takeIllegalWord s).pendAmp = s.pendAmp := rfl
@[simp] theorem takeIllegalWord_pendDf : (takeIllegalWord s).pendDf = s.pendDf := rfl
@[simp] theorem takeIllegalWord_synthRegs : (takeIllegalWord s).synthRegs = s.synthRegs := rfl
@[simp] theorem takeIllegalWord_ampOut : (takeIllegalWord s).ampOut = s.ampOut := rfl
@[simp] theorem takeIllegalWord_stOut : (takeIllegalWord s).stOut = s.stOut := rfl
@[simp] theorem takeIllegalWord_busErr : (takeIllegalWord s).busErr = s.busErr := rfl
@[simp] theorem takeIllegalWord_params : (takeIllegalWord s).params = s.params := rfl
@[simp] theorem takeIllegalWord_inputs : (takeIllegalWord s).inputs = s.inputs := rfl
@[simp] theorem takeIllegalWord_out : (takeIllegalWord s).out = [] := rfl
@[simp] theorem takeIllegalWord_freeCtr : (takeIllegalWord s).freeCtr = s.freeCtr := rfl

@[simp] theorem countBusError_fsm : (countBusError s).fsm = s.fsm := rfl
@[simp] theorem countBusError_cfg : (countBusError s).cfg = s.cfg := rfl
@[simp] theorem countBusError_err : (countBusError s).err = s.err := rfl
@[simp] theorem countBusError_oscSin : (countBusError s).oscSin = s.oscSin := rfl
@[simp] theorem countBusError_oscCos : (countBusError s).oscCos = s.oscCos := rfl
@[simp] theorem countBusError_hpfDc : (countBusError s).hpfDc = s.hpfDc := rfl
@[simp] theorem countBusError_v : (countBusError s).v = s.v := rfl
@[simp] theorem countBusError_prevPhase : (countBusError s).prevPhase = s.prevPhase := rfl
@[simp] theorem countBusError_gateCnt : (countBusError s).gateCnt = s.gateCnt := rfl
@[simp] theorem countBusError_rampIdx : (countBusError s).rampIdx = s.rampIdx := rfl
@[simp] theorem countBusError_carEn : (countBusError s).carEn = s.carEn := rfl
@[simp] theorem countBusError_carReg : (countBusError s).carReg = s.carReg := rfl
@[simp] theorem countBusError_pendAmp : (countBusError s).pendAmp = s.pendAmp := rfl
@[simp] theorem countBusError_pendDf : (countBusError s).pendDf = s.pendDf := rfl
@[simp] theorem countBusError_synthRegs : (countBusError s).synthRegs = s.synthRegs := rfl
@[simp] theorem countBusError_ampOut : (countBusError s).ampOut = s.ampOut := rfl
@[simp] theorem countBusError_stOut : (countBusError s).stOut = s.stOut := rfl
@[simp] theorem countBusError_busErr : (countBusError s).busErr = BitVec.ofNat 16 (min 65535 (s.busErr.toNat + 1)) := rfl
@[simp] theorem countBusError_params : (countBusError s).params = s.params := rfl
@[simp] theorem countBusError_inputs : (countBusError s).inputs = s.inputs := rfl
@[simp] theorem countBusError_out : (countBusError s).out = s.out := rfl
@[simp] theorem countBusError_freeCtr : (countBusError s).freeCtr = s.freeCtr := rfl

@[simp] theorem oscStep_fsm : (oscStep s).fsm = s.fsm := rfl
@[simp] theorem oscStep_cfg : (oscStep s).cfg = s.cfg := rfl
@[simp] theorem oscStep_err : (oscStep s).err = s.err := rfl
@[simp] theorem oscStep_oscSin : (oscStep s).oscSin = store 8 (oscSinNext s.params s.oscSin.toInt s.oscCos.toInt) := rfl
@[simp] theorem oscStep_oscCos : (oscStep s).oscCos = store 8 (oscCosNext s.params (oscSinNext s.params s.oscSin.toInt s.oscCos.toInt) s.oscCos.toInt) := rfl
@[simp] theorem oscStep_hpfDc : (oscStep s).hpfDc = s.hpfDc := rfl
@[simp] theorem oscStep_v : (oscStep s).v = s.v := rfl
@[simp] theorem oscStep_prevPhase : (oscStep s).prevPhase = s.prevPhase := rfl
@[simp] theorem oscStep_gateCnt : (oscStep s).gateCnt = s.gateCnt := rfl
@[simp] theorem oscStep_rampIdx : (oscStep s).rampIdx = s.rampIdx := rfl
@[simp] theorem oscStep_carEn : (oscStep s).carEn = s.carEn := rfl
@[simp] theorem oscStep_carReg : (oscStep s).carReg = s.carReg := rfl
@[simp] theorem oscStep_pendAmp : (oscStep s).pendAmp = s.pendAmp := rfl
@[simp] theorem oscStep_pendDf : (oscStep s).pendDf = s.pendDf := rfl
@[simp] theorem oscStep_synthRegs : (oscStep s).synthRegs = s.synthRegs := rfl
@[simp] theorem oscStep_ampOut : (oscStep s).ampOut = s.ampOut := rfl
@[simp] theorem oscStep_stOut : (oscStep s).stOut = s.stOut := rfl
@[simp] theorem oscStep_busErr : (oscStep s).busErr = s.busErr := rfl
@[simp] theorem oscStep_params : (oscStep s).params = s.params := rfl
@[simp] theorem oscStep_inputs : (oscStep s).inputs = s.inputs := rfl
@[simp] theorem oscStep_out : (oscStep s).out = s.out := rfl
@[simp] theorem oscStep_freeCtr : (oscStep s).freeCtr = s.freeCtr := rfl

@[simp] theorem gateStep_fsm (b : Bool) : (gateStep b s).fsm = s.fsm := rfl
@[simp] theorem gateStep_cfg (b : Bool) : (gateStep b s).cfg = s.cfg := rfl
@[simp] theorem gateStep_err (b : Bool) : (gateStep b s).err = s.err := rfl
@[simp] theorem gateStep_oscSin (b : Bool) : (gateStep b s).oscSin = s.oscSin := rfl
@[simp] theorem gateStep_oscCos (b : Bool) : (gateStep b s).oscCos = s.oscCos := rfl
@[simp] theorem gateStep_hpfDc (b : Bool) : (gateStep b s).hpfDc = s.hpfDc := rfl
@[simp] theorem gateStep_v (b : Bool) : (gateStep b s).v = s.v := rfl
@[simp] theorem gateStep_prevPhase (b : Bool) : (gateStep b s).prevPhase = s.prevPhase := rfl
@[simp] theorem gateStep_gateCnt (b : Bool) : (gateStep b s).gateCnt = gateNext s.params.hangMax b s.gateCnt := rfl
@[simp] theorem gateStep_rampIdx (b : Bool) : (gateStep b s).rampIdx = s.rampIdx := rfl
@[simp] theorem gateStep_carEn (b : Bool) : (gateStep b s).carEn = s.carEn := rfl
@[simp] theorem gateStep_carReg (b : Bool) : (gateStep b s).carReg = s.carReg := rfl
@[simp] theorem gateStep_pendAmp (b : Bool) : (gateStep b s).pendAmp = s.pendAmp := rfl
@[simp] theorem gateStep_pendDf (b : Bool) : (gateStep b s).pendDf = s.pendDf := rfl
@[simp] theorem gateStep_synthRegs (b : Bool) : (gateStep b s).synthRegs = s.synthRegs := rfl
@[simp] theorem gateStep_ampOut (b : Bool) : (gateStep b s).ampOut = s.ampOut := rfl
@[simp] theorem gateStep_stOut (b : Bool) : (gateStep b s).stOut = s.stOut := rfl
@[simp] theorem gateStep_busErr (b : Bool) : (gateStep b s).busErr = s.busErr := rfl
@[simp] theorem gateStep_params (b : Bool) : (gateStep b s).params = s.params := rfl
@[simp] theorem gateStep_inputs (b : Bool) : (gateStep b s).inputs = s.inputs := rfl
@[simp] theorem gateStep_out (b : Bool) : (gateStep b s).out = s.out := rfl
@[simp] theorem gateStep_freeCtr (b : Bool) : (gateStep b s).freeCtr = s.freeCtr := rfl

@[simp] theorem ampSsb_fsm (n : Nat) : (ampSsb n s).fsm = s.fsm := rfl
@[simp] theorem ampSsb_cfg (n : Nat) : (ampSsb n s).cfg = s.cfg := rfl
@[simp] theorem ampSsb_err (n : Nat) : (ampSsb n s).err = s.err := rfl
@[simp] theorem ampSsb_oscSin (n : Nat) : (ampSsb n s).oscSin = s.oscSin := rfl
@[simp] theorem ampSsb_oscCos (n : Nat) : (ampSsb n s).oscCos = s.oscCos := rfl
@[simp] theorem ampSsb_hpfDc (n : Nat) : (ampSsb n s).hpfDc = s.hpfDc := rfl
@[simp] theorem ampSsb_v (n : Nat) : (ampSsb n s).v = s.v := rfl
@[simp] theorem ampSsb_prevPhase (n : Nat) : (ampSsb n s).prevPhase = s.prevPhase := rfl
@[simp] theorem ampSsb_gateCnt (n : Nat) : (ampSsb n s).gateCnt = s.gateCnt := rfl
@[simp] theorem ampSsb_rampIdx (n : Nat) : (ampSsb n s).rampIdx = s.rampIdx := rfl
@[simp] theorem ampSsb_carEn (n : Nat) : (ampSsb n s).carEn = s.carEn := rfl
@[simp] theorem ampSsb_carReg (n : Nat) : (ampSsb n s).carReg = s.carReg := rfl
@[simp] theorem ampSsb_pendAmp (n : Nat) : (ampSsb n s).pendAmp = if gateOn s.gateCnt then lutRead s.params (ampDrive n s.cfg.drive) else 0 := rfl
@[simp] theorem ampSsb_pendDf (n : Nat) : (ampSsb n s).pendDf = s.pendDf := rfl
@[simp] theorem ampSsb_synthRegs (n : Nat) : (ampSsb n s).synthRegs = s.synthRegs := rfl
@[simp] theorem ampSsb_ampOut (n : Nat) : (ampSsb n s).ampOut = s.ampOut := rfl
@[simp] theorem ampSsb_stOut (n : Nat) : (ampSsb n s).stOut = s.stOut := rfl
@[simp] theorem ampSsb_busErr (n : Nat) : (ampSsb n s).busErr = s.busErr := rfl
@[simp] theorem ampSsb_params (n : Nat) : (ampSsb n s).params = s.params := rfl
@[simp] theorem ampSsb_inputs (n : Nat) : (ampSsb n s).inputs = s.inputs := rfl
@[simp] theorem ampSsb_out (n : Nat) : (ampSsb n s).out = s.out := rfl
@[simp] theorem ampSsb_freeCtr (n : Nat) : (ampSsb n s).freeCtr = s.freeCtr := rfl

@[simp] theorem ampCw_fsm : (ampCw s).fsm = s.fsm := rfl
@[simp] theorem ampCw_cfg : (ampCw s).cfg = s.cfg := rfl
@[simp] theorem ampCw_err : (ampCw s).err = s.err := rfl
@[simp] theorem ampCw_oscSin : (ampCw s).oscSin = s.oscSin := rfl
@[simp] theorem ampCw_oscCos : (ampCw s).oscCos = s.oscCos := rfl
@[simp] theorem ampCw_hpfDc : (ampCw s).hpfDc = s.hpfDc := rfl
@[simp] theorem ampCw_v : (ampCw s).v = s.v := rfl
@[simp] theorem ampCw_prevPhase : (ampCw s).prevPhase = s.prevPhase := rfl
@[simp] theorem ampCw_gateCnt : (ampCw s).gateCnt = s.gateCnt := rfl
@[simp] theorem ampCw_rampIdx : (ampCw s).rampIdx = rampNext s.rampIdx := rfl
@[simp] theorem ampCw_carEn : (ampCw s).carEn = s.carEn := rfl
@[simp] theorem ampCw_carReg : (ampCw s).carReg = s.carReg := rfl
@[simp] theorem ampCw_pendAmp : (ampCw s).pendAmp = rampLevel s.params (rampWeight s.params s.rampIdx) := rfl
@[simp] theorem ampCw_pendDf : (ampCw s).pendDf = s.pendDf := rfl
@[simp] theorem ampCw_synthRegs : (ampCw s).synthRegs = s.synthRegs := rfl
@[simp] theorem ampCw_ampOut : (ampCw s).ampOut = s.ampOut := rfl
@[simp] theorem ampCw_stOut : (ampCw s).stOut = s.stOut := rfl
@[simp] theorem ampCw_busErr : (ampCw s).busErr = s.busErr := rfl
@[simp] theorem ampCw_params : (ampCw s).params = s.params := rfl
@[simp] theorem ampCw_inputs : (ampCw s).inputs = s.inputs := rfl
@[simp] theorem ampCw_out : (ampCw s).out = s.out := rfl
@[simp] theorem ampCw_freeCtr : (ampCw s).freeCtr = s.freeCtr := rfl

@[simp] theorem ssbHpf_fsm (x : Int) : (ssbHpf x s).fsm = s.fsm := rfl
@[simp] theorem ssbHpf_cfg (x : Int) : (ssbHpf x s).cfg = s.cfg := rfl
@[simp] theorem ssbHpf_err (x : Int) : (ssbHpf x s).err = s.err := rfl
@[simp] theorem ssbHpf_oscSin (x : Int) : (ssbHpf x s).oscSin = s.oscSin := rfl
@[simp] theorem ssbHpf_oscCos (x : Int) : (ssbHpf x s).oscCos = s.oscCos := rfl
@[simp] theorem ssbHpf_hpfDc (x : Int) : (ssbHpf x s).hpfDc = store 16 (hpfAverage s.params x s.hpfDc.toInt) := rfl
@[simp] theorem ssbHpf_v (x : Int) : (ssbHpf x s).v = s.v := rfl
@[simp] theorem ssbHpf_prevPhase (x : Int) : (ssbHpf x s).prevPhase = s.prevPhase := rfl
@[simp] theorem ssbHpf_gateCnt (x : Int) : (ssbHpf x s).gateCnt = s.gateCnt := rfl
@[simp] theorem ssbHpf_rampIdx (x : Int) : (ssbHpf x s).rampIdx = s.rampIdx := rfl
@[simp] theorem ssbHpf_carEn (x : Int) : (ssbHpf x s).carEn = s.carEn := rfl
@[simp] theorem ssbHpf_carReg (x : Int) : (ssbHpf x s).carReg = s.carReg := rfl
@[simp] theorem ssbHpf_pendAmp (x : Int) : (ssbHpf x s).pendAmp = s.pendAmp := rfl
@[simp] theorem ssbHpf_pendDf (x : Int) : (ssbHpf x s).pendDf = s.pendDf := rfl
@[simp] theorem ssbHpf_synthRegs (x : Int) : (ssbHpf x s).synthRegs = s.synthRegs := rfl
@[simp] theorem ssbHpf_ampOut (x : Int) : (ssbHpf x s).ampOut = s.ampOut := rfl
@[simp] theorem ssbHpf_stOut (x : Int) : (ssbHpf x s).stOut = s.stOut := rfl
@[simp] theorem ssbHpf_busErr (x : Int) : (ssbHpf x s).busErr = s.busErr := rfl
@[simp] theorem ssbHpf_params (x : Int) : (ssbHpf x s).params = s.params := rfl
@[simp] theorem ssbHpf_inputs (x : Int) : (ssbHpf x s).inputs = s.inputs := rfl
@[simp] theorem ssbHpf_out (x : Int) : (ssbHpf x s).out = s.out := rfl
@[simp] theorem ssbHpf_freeCtr (x : Int) : (ssbHpf x s).freeCtr = s.freeCtr := rfl

@[simp] theorem ssbShift_fsm (x : Int) : (ssbShift x s).fsm = s.fsm := rfl
@[simp] theorem ssbShift_cfg (x : Int) : (ssbShift x s).cfg = s.cfg := rfl
@[simp] theorem ssbShift_err (x : Int) : (ssbShift x s).err = s.err := rfl
@[simp] theorem ssbShift_oscSin (x : Int) : (ssbShift x s).oscSin = s.oscSin := rfl
@[simp] theorem ssbShift_oscCos (x : Int) : (ssbShift x s).oscCos = s.oscCos := rfl
@[simp] theorem ssbShift_hpfDc (x : Int) : (ssbShift x s).hpfDc = s.hpfDc := rfl
@[simp] theorem ssbShift_v (x : Int) : (ssbShift x s).v = shiftLine (store 18 (x - s.hpfDc.toInt)) s.v := rfl
@[simp] theorem ssbShift_prevPhase (x : Int) : (ssbShift x s).prevPhase = s.prevPhase := rfl
@[simp] theorem ssbShift_gateCnt (x : Int) : (ssbShift x s).gateCnt = s.gateCnt := rfl
@[simp] theorem ssbShift_rampIdx (x : Int) : (ssbShift x s).rampIdx = s.rampIdx := rfl
@[simp] theorem ssbShift_carEn (x : Int) : (ssbShift x s).carEn = s.carEn := rfl
@[simp] theorem ssbShift_carReg (x : Int) : (ssbShift x s).carReg = s.carReg := rfl
@[simp] theorem ssbShift_pendAmp (x : Int) : (ssbShift x s).pendAmp = s.pendAmp := rfl
@[simp] theorem ssbShift_pendDf (x : Int) : (ssbShift x s).pendDf = s.pendDf := rfl
@[simp] theorem ssbShift_synthRegs (x : Int) : (ssbShift x s).synthRegs = s.synthRegs := rfl
@[simp] theorem ssbShift_ampOut (x : Int) : (ssbShift x s).ampOut = s.ampOut := rfl
@[simp] theorem ssbShift_stOut (x : Int) : (ssbShift x s).stOut = s.stOut := rfl
@[simp] theorem ssbShift_busErr (x : Int) : (ssbShift x s).busErr = s.busErr := rfl
@[simp] theorem ssbShift_params (x : Int) : (ssbShift x s).params = s.params := rfl
@[simp] theorem ssbShift_inputs (x : Int) : (ssbShift x s).inputs = s.inputs := rfl
@[simp] theorem ssbShift_out (x : Int) : (ssbShift x s).out = s.out := rfl
@[simp] theorem ssbShift_freeCtr (x : Int) : (ssbShift x s).freeCtr = s.freeCtr := rfl

end Sys2Proof.Machine
end

