-- ==== Sys2Proof/Laws/Frames.lean ====
section
/-! SUPPORT. The frames of the operations that make up a tick: the fields each one leaves as they were. -/

namespace Sys2Proof.Machine

variable (s : State)

@[simp] theorem storeDelta_fsm (d : Int) : (storeDelta d s).fsm = s.fsm := by unfold storeDelta; split <;> rfl
@[simp] theorem storeDelta_cfg (d : Int) : (storeDelta d s).cfg = s.cfg := by unfold storeDelta; split <;> rfl
@[simp] theorem storeDelta_err (d : Int) : (storeDelta d s).err = s.err := by unfold storeDelta; split <;> rfl
@[simp] theorem storeDelta_oscSin (d : Int) : (storeDelta d s).oscSin = s.oscSin := by unfold storeDelta; split <;> rfl
@[simp] theorem storeDelta_oscCos (d : Int) : (storeDelta d s).oscCos = s.oscCos := by unfold storeDelta; split <;> rfl
@[simp] theorem storeDelta_hpfDc (d : Int) : (storeDelta d s).hpfDc = s.hpfDc := by unfold storeDelta; split <;> rfl
@[simp] theorem storeDelta_v (d : Int) : (storeDelta d s).v = s.v := by unfold storeDelta; split <;> rfl
@[simp] theorem storeDelta_prevPhase (d : Int) : (storeDelta d s).prevPhase = s.prevPhase := by unfold storeDelta; split <;> rfl
@[simp] theorem storeDelta_gateCnt (d : Int) : (storeDelta d s).gateCnt = s.gateCnt := by unfold storeDelta; split <;> rfl
@[simp] theorem storeDelta_rampIdx (d : Int) : (storeDelta d s).rampIdx = s.rampIdx := by unfold storeDelta; split <;> rfl
@[simp] theorem storeDelta_carEn (d : Int) : (storeDelta d s).carEn = s.carEn := by unfold storeDelta; split <;> rfl
@[simp] theorem storeDelta_carReg (d : Int) : (storeDelta d s).carReg = s.carReg := by unfold storeDelta; split <;> rfl
@[simp] theorem storeDelta_pendAmp (d : Int) : (storeDelta d s).pendAmp = s.pendAmp := by unfold storeDelta; split <;> rfl
@[simp] theorem storeDelta_synthRegs (d : Int) : (storeDelta d s).synthRegs = s.synthRegs := by unfold storeDelta; split <;> rfl
@[simp] theorem storeDelta_ampOut (d : Int) : (storeDelta d s).ampOut = s.ampOut := by unfold storeDelta; split <;> rfl
@[simp] theorem storeDelta_stOut (d : Int) : (storeDelta d s).stOut = s.stOut := by unfold storeDelta; split <;> rfl
@[simp] theorem storeDelta_busErr (d : Int) : (storeDelta d s).busErr = s.busErr := by unfold storeDelta; split <;> rfl
@[simp] theorem storeDelta_params (d : Int) : (storeDelta d s).params = s.params := by unfold storeDelta; split <;> rfl
@[simp] theorem storeDelta_inputs (d : Int) : (storeDelta d s).inputs = s.inputs := by unfold storeDelta; split <;> rfl
@[simp] theorem storeDelta_out (d : Int) : (storeDelta d s).out = s.out := by unfold storeDelta; split <;> rfl

@[simp] theorem prlStep_fsm (p : Int) : (prlStep p s).fsm = s.fsm := by simp [prlStep]
@[simp] theorem prlStep_cfg (p : Int) : (prlStep p s).cfg = s.cfg := by simp [prlStep]
@[simp] theorem prlStep_err (p : Int) : (prlStep p s).err = s.err := by simp [prlStep]
@[simp] theorem prlStep_oscSin (p : Int) : (prlStep p s).oscSin = s.oscSin := by simp [prlStep]
@[simp] theorem prlStep_oscCos (p : Int) : (prlStep p s).oscCos = s.oscCos := by simp [prlStep]
@[simp] theorem prlStep_hpfDc (p : Int) : (prlStep p s).hpfDc = s.hpfDc := by simp [prlStep]
@[simp] theorem prlStep_v (p : Int) : (prlStep p s).v = s.v := by simp [prlStep]
@[simp] theorem prlStep_gateCnt (p : Int) : (prlStep p s).gateCnt = s.gateCnt := by simp [prlStep]
@[simp] theorem prlStep_rampIdx (p : Int) : (prlStep p s).rampIdx = s.rampIdx := by simp [prlStep]
@[simp] theorem prlStep_carEn (p : Int) : (prlStep p s).carEn = s.carEn := by simp [prlStep]
@[simp] theorem prlStep_carReg (p : Int) : (prlStep p s).carReg = s.carReg := by simp [prlStep]
@[simp] theorem prlStep_pendAmp (p : Int) : (prlStep p s).pendAmp = s.pendAmp := by simp [prlStep]
@[simp] theorem prlStep_synthRegs (p : Int) : (prlStep p s).synthRegs = s.synthRegs := by simp [prlStep]
@[simp] theorem prlStep_ampOut (p : Int) : (prlStep p s).ampOut = s.ampOut := by simp [prlStep]
@[simp] theorem prlStep_stOut (p : Int) : (prlStep p s).stOut = s.stOut := by simp [prlStep]
@[simp] theorem prlStep_busErr (p : Int) : (prlStep p s).busErr = s.busErr := by simp [prlStep]
@[simp] theorem prlStep_params (p : Int) : (prlStep p s).params = s.params := by simp [prlStep]
@[simp] theorem prlStep_inputs (p : Int) : (prlStep p s).inputs = s.inputs := by simp [prlStep]
@[simp] theorem prlStep_out (p : Int) : (prlStep p s).out = s.out := by simp [prlStep]

@[simp] theorem ssbShape_fsm : (ssbShape s).fsm = s.fsm := by simp [ssbShape]
@[simp] theorem ssbShape_cfg : (ssbShape s).cfg = s.cfg := by simp [ssbShape]
@[simp] theorem ssbShape_err : (ssbShape s).err = s.err := by simp [ssbShape]
@[simp] theorem ssbShape_oscSin : (ssbShape s).oscSin = s.oscSin := by simp [ssbShape]
@[simp] theorem ssbShape_oscCos : (ssbShape s).oscCos = s.oscCos := by simp [ssbShape]
@[simp] theorem ssbShape_hpfDc : (ssbShape s).hpfDc = s.hpfDc := by simp [ssbShape]
@[simp] theorem ssbShape_v : (ssbShape s).v = s.v := by simp [ssbShape]
@[simp] theorem ssbShape_rampIdx : (ssbShape s).rampIdx = s.rampIdx := by simp [ssbShape]
@[simp] theorem ssbShape_carEn : (ssbShape s).carEn = s.carEn := by simp [ssbShape]
@[simp] theorem ssbShape_carReg : (ssbShape s).carReg = s.carReg := by simp [ssbShape]
@[simp] theorem ssbShape_synthRegs : (ssbShape s).synthRegs = s.synthRegs := by simp [ssbShape]
@[simp] theorem ssbShape_ampOut : (ssbShape s).ampOut = s.ampOut := by simp [ssbShape]
@[simp] theorem ssbShape_stOut : (ssbShape s).stOut = s.stOut := by simp [ssbShape]
@[simp] theorem ssbShape_busErr : (ssbShape s).busErr = s.busErr := by simp [ssbShape]
@[simp] theorem ssbShape_params : (ssbShape s).params = s.params := by simp [ssbShape]
@[simp] theorem ssbShape_inputs : (ssbShape s).inputs = s.inputs := by simp [ssbShape]
@[simp] theorem ssbShape_out : (ssbShape s).out = s.out := by simp [ssbShape]

@[simp] theorem ssbTick_fsm (x : Int) : (ssbTick x s).fsm = s.fsm := by simp [ssbTick]
@[simp] theorem ssbTick_cfg (x : Int) : (ssbTick x s).cfg = s.cfg := by simp [ssbTick]
@[simp] theorem ssbTick_err (x : Int) : (ssbTick x s).err = s.err := by simp [ssbTick]
@[simp] theorem ssbTick_oscSin (x : Int) : (ssbTick x s).oscSin = s.oscSin := by simp [ssbTick]
@[simp] theorem ssbTick_oscCos (x : Int) : (ssbTick x s).oscCos = s.oscCos := by simp [ssbTick]
@[simp] theorem ssbTick_rampIdx (x : Int) : (ssbTick x s).rampIdx = s.rampIdx := by simp [ssbTick]
@[simp] theorem ssbTick_carEn (x : Int) : (ssbTick x s).carEn = s.carEn := by simp [ssbTick]
@[simp] theorem ssbTick_carReg (x : Int) : (ssbTick x s).carReg = s.carReg := by simp [ssbTick]
@[simp] theorem ssbTick_synthRegs (x : Int) : (ssbTick x s).synthRegs = s.synthRegs := by simp [ssbTick]
@[simp] theorem ssbTick_ampOut (x : Int) : (ssbTick x s).ampOut = s.ampOut := by simp [ssbTick]
@[simp] theorem ssbTick_stOut (x : Int) : (ssbTick x s).stOut = s.stOut := by simp [ssbTick]
@[simp] theorem ssbTick_busErr (x : Int) : (ssbTick x s).busErr = s.busErr := by simp [ssbTick]
@[simp] theorem ssbTick_params (x : Int) : (ssbTick x s).params = s.params := by simp [ssbTick]
@[simp] theorem ssbTick_inputs (x : Int) : (ssbTick x s).inputs = s.inputs := by simp [ssbTick]
@[simp] theorem ssbTick_out (x : Int) : (ssbTick x s).out = s.out := by simp [ssbTick]

@[simp] theorem amTick_fsm (x : Int) : (amTick x s).fsm = s.fsm := by simp [amTick]
@[simp] theorem amTick_cfg (x : Int) : (amTick x s).cfg = s.cfg := by simp [amTick]
@[simp] theorem amTick_err (x : Int) : (amTick x s).err = s.err := by simp [amTick]
@[simp] theorem amTick_oscSin (x : Int) : (amTick x s).oscSin = s.oscSin := by simp [amTick]
@[simp] theorem amTick_oscCos (x : Int) : (amTick x s).oscCos = s.oscCos := by simp [amTick]
@[simp] theorem amTick_hpfDc (x : Int) : (amTick x s).hpfDc = s.hpfDc := by simp [amTick]
@[simp] theorem amTick_v (x : Int) : (amTick x s).v = s.v := by simp [amTick]
@[simp] theorem amTick_prevPhase (x : Int) : (amTick x s).prevPhase = s.prevPhase := by simp [amTick]
@[simp] theorem amTick_gateCnt (x : Int) : (amTick x s).gateCnt = s.gateCnt := by simp [amTick]
@[simp] theorem amTick_rampIdx (x : Int) : (amTick x s).rampIdx = s.rampIdx := by simp [amTick]
@[simp] theorem amTick_carEn (x : Int) : (amTick x s).carEn = s.carEn := by simp [amTick]
@[simp] theorem amTick_carReg (x : Int) : (amTick x s).carReg = s.carReg := by simp [amTick]
@[simp] theorem amTick_synthRegs (x : Int) : (amTick x s).synthRegs = s.synthRegs := by simp [amTick]
@[simp] theorem amTick_ampOut (x : Int) : (amTick x s).ampOut = s.ampOut := by simp [amTick]
@[simp] theorem amTick_stOut (x : Int) : (amTick x s).stOut = s.stOut := by simp [amTick]
@[simp] theorem amTick_busErr (x : Int) : (amTick x s).busErr = s.busErr := by simp [amTick]
@[simp] theorem amTick_params (x : Int) : (amTick x s).params = s.params := by simp [amTick]
@[simp] theorem amTick_inputs (x : Int) : (amTick x s).inputs = s.inputs := by simp [amTick]
@[simp] theorem amTick_out (x : Int) : (amTick x s).out = s.out := by simp [amTick]
@[simp] theorem amTick_freeCtr (x : Int) : (amTick x s).freeCtr = s.freeCtr := by simp [amTick]

@[simp] theorem fmTick_fsm (x : Int) : (fmTick x s).fsm = s.fsm := by simp [fmTick]
@[simp] theorem fmTick_cfg (x : Int) : (fmTick x s).cfg = s.cfg := by simp [fmTick]
@[simp] theorem fmTick_err (x : Int) : (fmTick x s).err = s.err := by simp [fmTick]
@[simp] theorem fmTick_oscSin (x : Int) : (fmTick x s).oscSin = s.oscSin := by simp [fmTick]
@[simp] theorem fmTick_oscCos (x : Int) : (fmTick x s).oscCos = s.oscCos := by simp [fmTick]
@[simp] theorem fmTick_hpfDc (x : Int) : (fmTick x s).hpfDc = s.hpfDc := by simp [fmTick]
@[simp] theorem fmTick_v (x : Int) : (fmTick x s).v = s.v := by simp [fmTick]
@[simp] theorem fmTick_prevPhase (x : Int) : (fmTick x s).prevPhase = s.prevPhase := by simp [fmTick]
@[simp] theorem fmTick_gateCnt (x : Int) : (fmTick x s).gateCnt = s.gateCnt := by simp [fmTick]
@[simp] theorem fmTick_rampIdx (x : Int) : (fmTick x s).rampIdx = s.rampIdx := by simp [fmTick]
@[simp] theorem fmTick_carEn (x : Int) : (fmTick x s).carEn = s.carEn := by simp [fmTick]
@[simp] theorem fmTick_carReg (x : Int) : (fmTick x s).carReg = s.carReg := by simp [fmTick]
@[simp] theorem fmTick_synthRegs (x : Int) : (fmTick x s).synthRegs = s.synthRegs := by simp [fmTick]
@[simp] theorem fmTick_ampOut (x : Int) : (fmTick x s).ampOut = s.ampOut := by simp [fmTick]
@[simp] theorem fmTick_stOut (x : Int) : (fmTick x s).stOut = s.stOut := by simp [fmTick]
@[simp] theorem fmTick_busErr (x : Int) : (fmTick x s).busErr = s.busErr := by simp [fmTick]
@[simp] theorem fmTick_params (x : Int) : (fmTick x s).params = s.params := by simp [fmTick]
@[simp] theorem fmTick_inputs (x : Int) : (fmTick x s).inputs = s.inputs := by simp [fmTick]
@[simp] theorem fmTick_out (x : Int) : (fmTick x s).out = s.out := by simp [fmTick]
@[simp] theorem fmTick_freeCtr (x : Int) : (fmTick x s).freeCtr = s.freeCtr := by simp [fmTick]

@[simp] theorem cwTick_fsm : (cwTick s).fsm = s.fsm := by simp [cwTick]
@[simp] theorem cwTick_cfg : (cwTick s).cfg = s.cfg := by simp [cwTick]
@[simp] theorem cwTick_err : (cwTick s).err = s.err := by simp [cwTick]
@[simp] theorem cwTick_hpfDc : (cwTick s).hpfDc = s.hpfDc := by simp [cwTick]
@[simp] theorem cwTick_v : (cwTick s).v = s.v := by simp [cwTick]
@[simp] theorem cwTick_prevPhase : (cwTick s).prevPhase = s.prevPhase := by simp [cwTick]
@[simp] theorem cwTick_gateCnt : (cwTick s).gateCnt = s.gateCnt := by simp [cwTick]
@[simp] theorem cwTick_carEn : (cwTick s).carEn = s.carEn := by simp [cwTick]
@[simp] theorem cwTick_carReg : (cwTick s).carReg = s.carReg := by simp [cwTick]
@[simp] theorem cwTick_synthRegs : (cwTick s).synthRegs = s.synthRegs := by simp [cwTick]
@[simp] theorem cwTick_ampOut : (cwTick s).ampOut = s.ampOut := by simp [cwTick]
@[simp] theorem cwTick_stOut : (cwTick s).stOut = s.stOut := by simp [cwTick]
@[simp] theorem cwTick_busErr : (cwTick s).busErr = s.busErr := by simp [cwTick]
@[simp] theorem cwTick_params : (cwTick s).params = s.params := by simp [cwTick]
@[simp] theorem cwTick_inputs : (cwTick s).inputs = s.inputs := by simp [cwTick]
@[simp] theorem cwTick_out : (cwTick s).out = s.out := by simp [cwTick]
@[simp] theorem cwTick_freeCtr : (cwTick s).freeCtr = s.freeCtr := by simp [cwTick]

@[simp] theorem otherTick_fsm : (otherTick s).fsm = s.fsm := by simp [otherTick]
@[simp] theorem otherTick_cfg : (otherTick s).cfg = s.cfg := by simp [otherTick]
@[simp] theorem otherTick_err : (otherTick s).err = s.err := by simp [otherTick]
@[simp] theorem otherTick_oscSin : (otherTick s).oscSin = s.oscSin := by simp [otherTick]
@[simp] theorem otherTick_oscCos : (otherTick s).oscCos = s.oscCos := by simp [otherTick]
@[simp] theorem otherTick_hpfDc : (otherTick s).hpfDc = s.hpfDc := by simp [otherTick]
@[simp] theorem otherTick_v : (otherTick s).v = s.v := by simp [otherTick]
@[simp] theorem otherTick_prevPhase : (otherTick s).prevPhase = s.prevPhase := by simp [otherTick]
@[simp] theorem otherTick_gateCnt : (otherTick s).gateCnt = s.gateCnt := by simp [otherTick]
@[simp] theorem otherTick_rampIdx : (otherTick s).rampIdx = s.rampIdx := by simp [otherTick]
@[simp] theorem otherTick_carEn : (otherTick s).carEn = s.carEn := by simp [otherTick]
@[simp] theorem otherTick_carReg : (otherTick s).carReg = s.carReg := by simp [otherTick]
@[simp] theorem otherTick_synthRegs : (otherTick s).synthRegs = s.synthRegs := by simp [otherTick]
@[simp] theorem otherTick_ampOut : (otherTick s).ampOut = s.ampOut := by simp [otherTick]
@[simp] theorem otherTick_stOut : (otherTick s).stOut = s.stOut := by simp [otherTick]
@[simp] theorem otherTick_busErr : (otherTick s).busErr = s.busErr := by simp [otherTick]
@[simp] theorem otherTick_params : (otherTick s).params = s.params := by simp [otherTick]
@[simp] theorem otherTick_inputs : (otherTick s).inputs = s.inputs := by simp [otherTick]
@[simp] theorem otherTick_out : (otherTick s).out = s.out := by simp [otherTick]
@[simp] theorem otherTick_freeCtr : (otherTick s).freeCtr = s.freeCtr := by simp [otherTick]

@[simp] theorem modeTick_fsm (m : Option Mode) (x : Int) : (modeTick m x s).fsm = s.fsm := by unfold modeTick; split <;> simp
@[simp] theorem modeTick_cfg (m : Option Mode) (x : Int) : (modeTick m x s).cfg = s.cfg := by unfold modeTick; split <;> simp
@[simp] theorem modeTick_err (m : Option Mode) (x : Int) : (modeTick m x s).err = s.err := by unfold modeTick; split <;> simp
@[simp] theorem modeTick_carEn (m : Option Mode) (x : Int) : (modeTick m x s).carEn = s.carEn := by unfold modeTick; split <;> simp
@[simp] theorem modeTick_carReg (m : Option Mode) (x : Int) : (modeTick m x s).carReg = s.carReg := by unfold modeTick; split <;> simp
@[simp] theorem modeTick_synthRegs (m : Option Mode) (x : Int) : (modeTick m x s).synthRegs = s.synthRegs := by unfold modeTick; split <;> simp
@[simp] theorem modeTick_ampOut (m : Option Mode) (x : Int) : (modeTick m x s).ampOut = s.ampOut := by unfold modeTick; split <;> simp
@[simp] theorem modeTick_stOut (m : Option Mode) (x : Int) : (modeTick m x s).stOut = s.stOut := by unfold modeTick; split <;> simp
@[simp] theorem modeTick_busErr (m : Option Mode) (x : Int) : (modeTick m x s).busErr = s.busErr := by unfold modeTick; split <;> simp
@[simp] theorem modeTick_params (m : Option Mode) (x : Int) : (modeTick m x s).params = s.params := by unfold modeTick; split <;> simp
@[simp] theorem modeTick_inputs (m : Option Mode) (x : Int) : (modeTick m x s).inputs = s.inputs := by unfold modeTick; split <;> simp
@[simp] theorem modeTick_out (m : Option Mode) (x : Int) : (modeTick m x s).out = s.out := by unfold modeTick; split <;> simp

@[simp] theorem ceEval_fsm (b : Bool) : (ceEval b s).fsm = s.fsm := by unfold ceEval; split <;> rfl
@[simp] theorem ceEval_cfg (b : Bool) : (ceEval b s).cfg = s.cfg := by unfold ceEval; split <;> rfl
@[simp] theorem ceEval_err (b : Bool) : (ceEval b s).err = s.err := by unfold ceEval; split <;> rfl
@[simp] theorem ceEval_oscSin (b : Bool) : (ceEval b s).oscSin = s.oscSin := by unfold ceEval; split <;> rfl
@[simp] theorem ceEval_oscCos (b : Bool) : (ceEval b s).oscCos = s.oscCos := by unfold ceEval; split <;> rfl
@[simp] theorem ceEval_hpfDc (b : Bool) : (ceEval b s).hpfDc = s.hpfDc := by unfold ceEval; split <;> rfl
@[simp] theorem ceEval_v (b : Bool) : (ceEval b s).v = s.v := by unfold ceEval; split <;> rfl
@[simp] theorem ceEval_prevPhase (b : Bool) : (ceEval b s).prevPhase = s.prevPhase := by unfold ceEval; split <;> rfl
@[simp] theorem ceEval_gateCnt (b : Bool) : (ceEval b s).gateCnt = s.gateCnt := by unfold ceEval; split <;> rfl
@[simp] theorem ceEval_rampIdx (b : Bool) : (ceEval b s).rampIdx = s.rampIdx := by unfold ceEval; split <;> rfl
@[simp] theorem ceEval_pendAmp (b : Bool) : (ceEval b s).pendAmp = s.pendAmp := by unfold ceEval; split <;> rfl
@[simp] theorem ceEval_pendDf (b : Bool) : (ceEval b s).pendDf = s.pendDf := by unfold ceEval; split <;> rfl
@[simp] theorem ceEval_synthRegs (b : Bool) : (ceEval b s).synthRegs = s.synthRegs := by unfold ceEval; split <;> rfl
@[simp] theorem ceEval_ampOut (b : Bool) : (ceEval b s).ampOut = s.ampOut := by unfold ceEval; split <;> rfl
@[simp] theorem ceEval_stOut (b : Bool) : (ceEval b s).stOut = s.stOut := by unfold ceEval; split <;> rfl
@[simp] theorem ceEval_busErr (b : Bool) : (ceEval b s).busErr = s.busErr := by unfold ceEval; split <;> rfl
@[simp] theorem ceEval_params (b : Bool) : (ceEval b s).params = s.params := by unfold ceEval; split <;> rfl
@[simp] theorem ceEval_inputs (b : Bool) : (ceEval b s).inputs = s.inputs := by unfold ceEval; split <;> rfl
@[simp] theorem ceEval_freeCtr (b : Bool) : (ceEval b s).freeCtr = s.freeCtr := by unfold ceEval; split <;> rfl

@[simp] theorem sideToneOut_fsm (m : Option Mode) : (sideToneOut m s).fsm = s.fsm := by unfold sideToneOut; split <;> rfl
@[simp] theorem sideToneOut_cfg (m : Option Mode) : (sideToneOut m s).cfg = s.cfg := by unfold sideToneOut; split <;> rfl
@[simp] theorem sideToneOut_err (m : Option Mode) : (sideToneOut m s).err = s.err := by unfold sideToneOut; split <;> rfl
@[simp] theorem sideToneOut_oscSin (m : Option Mode) : (sideToneOut m s).oscSin = s.oscSin := by unfold sideToneOut; split <;> rfl
@[simp] theorem sideToneOut_oscCos (m : Option Mode) : (sideToneOut m s).oscCos = s.oscCos := by unfold sideToneOut; split <;> rfl
@[simp] theorem sideToneOut_hpfDc (m : Option Mode) : (sideToneOut m s).hpfDc = s.hpfDc := by unfold sideToneOut; split <;> rfl
@[simp] theorem sideToneOut_v (m : Option Mode) : (sideToneOut m s).v = s.v := by unfold sideToneOut; split <;> rfl
@[simp] theorem sideToneOut_prevPhase (m : Option Mode) : (sideToneOut m s).prevPhase = s.prevPhase := by unfold sideToneOut; split <;> rfl
@[simp] theorem sideToneOut_gateCnt (m : Option Mode) : (sideToneOut m s).gateCnt = s.gateCnt := by unfold sideToneOut; split <;> rfl
@[simp] theorem sideToneOut_rampIdx (m : Option Mode) : (sideToneOut m s).rampIdx = s.rampIdx := by unfold sideToneOut; split <;> rfl
@[simp] theorem sideToneOut_carEn (m : Option Mode) : (sideToneOut m s).carEn = s.carEn := by unfold sideToneOut; split <;> rfl
@[simp] theorem sideToneOut_carReg (m : Option Mode) : (sideToneOut m s).carReg = s.carReg := by unfold sideToneOut; split <;> rfl
@[simp] theorem sideToneOut_pendAmp (m : Option Mode) : (sideToneOut m s).pendAmp = s.pendAmp := by unfold sideToneOut; split <;> rfl
@[simp] theorem sideToneOut_pendDf (m : Option Mode) : (sideToneOut m s).pendDf = s.pendDf := by unfold sideToneOut; split <;> rfl
@[simp] theorem sideToneOut_synthRegs (m : Option Mode) : (sideToneOut m s).synthRegs = s.synthRegs := by unfold sideToneOut; split <;> rfl
@[simp] theorem sideToneOut_ampOut (m : Option Mode) : (sideToneOut m s).ampOut = s.ampOut := by unfold sideToneOut; split <;> rfl
@[simp] theorem sideToneOut_busErr (m : Option Mode) : (sideToneOut m s).busErr = s.busErr := by unfold sideToneOut; split <;> rfl
@[simp] theorem sideToneOut_params (m : Option Mode) : (sideToneOut m s).params = s.params := by unfold sideToneOut; split <;> rfl
@[simp] theorem sideToneOut_inputs (m : Option Mode) : (sideToneOut m s).inputs = s.inputs := by unfold sideToneOut; split <;> rfl
@[simp] theorem sideToneOut_freeCtr (m : Option Mode) : (sideToneOut m s).freeCtr = s.freeCtr := by unfold sideToneOut; split <;> rfl

end Sys2Proof.Machine
end

