-- ==== Sys2Proof/Laws/Input.lean ====
section
/-! SUPPORT. What taking the next delivered word can do (spec/20_memory.md R61, R62; log entries 1 and 6). -/

namespace Sys2Proof.Machine

/-- A word presented alone at the head of the queue is the next one. -/
theorem nextEvent_singleton (w : Word) (later : List (List Word)) : nextEvent ([w] :: later) = some (w, later) := by
  simp [nextEvent, takeFromInstant, pickFirst]

/-- With no word in any instant there is no next word. -/
theorem nextEvent_eq_none {queue : List (List Word)} (h : ∀ ws ∈ queue, ws = []) : nextEvent queue = none := by
  induction queue with
  | nil => rfl
  | cons ws later ih =>
    obtain rfl := h ws (by simp)
    simpa [nextEvent, takeFromInstant, pickFirst] using ih fun ws hw => h ws (by simp [hw])

/-- The word picked from an instant: of least rank, the first of that rank, the others left in their order. -/
theorem pickFirst_split {ws : List Word} (h : ws ≠ []) :
    ∃ pre w post, ws = pre ++ w :: post ∧ pickFirst ws = some (w, pre ++ post) ∧
      (∀ u ∈ pre, rank w < rank u) ∧ ∀ u ∈ post, rank w ≤ rank u := by
  induction ws with
  | nil => exact absurd rfl h
  | cons a ws ih =>
    rcases eq_or_ne ws [] with rfl | hne
    · exact ⟨[], a, [], by simp [pickFirst]⟩
    · obtain ⟨pre, w, post, rfl, hp, h1, h2⟩ := ih hne
      by_cases hr : rank a ≤ rank w
      · refine ⟨[], a, pre ++ w :: post, rfl, by simp [pickFirst, hp, hr], by simp, ?_⟩
        simp only [List.mem_append, List.mem_cons]
        rintro u (hu | rfl | hu)
        · exact hr.trans (h1 u hu).le
        · exact hr
        · exact hr.trans (h2 u hu)
      · refine ⟨a :: pre, w, post, rfl, by simp [pickFirst, hp, hr], ?_, h2⟩
        simp only [List.mem_cons]
        rintro u (rfl | hu)
        · exact not_le.mp hr
        · exact h1 u hu

end Sys2Proof.Machine
end

