-- ==== Sys2Proof/Laws/Ops.lean ====
section
/-! SUPPORT. What each shared operation of a tick can do, said once (spec/40 to spec/46). -/

namespace Sys2Proof.Machine

/-- `CE_EVAL` (R150): the observable is remembered; the register is written, and the write traced, exactly when it changed. -/
theorem ceEval_eq (ce : Bool) (s : State) :
    ceEval ce s = { s with
      carEn := ce
      carReg := if ce = s.carEn then s.carReg else ce
      out := s.out ++ if ce = s.carEn then [] else [.carrierEnableWrite ce] } := by
  unfold ceEval; split <;> simp [carrierEnableWrite, emit]

@[simp] theorem ceEval_carEn (ce : Bool) (s : State) : (ceEval ce s).carEn = ce := rfl

@[simp] theorem ceEval_carReg (ce : Bool) (s : State) :
    (ceEval ce s).carReg = if ce = s.carEn then s.carReg else ce := by rw [ceEval_eq]

@[simp] theorem ceEval_out (ce : Bool) (s : State) :
    (ceEval ce s).out = s.out ++ if ce = s.carEn then [] else [.carrierEnableWrite ce] := by rw [ceEval_eq]

/-- The limiter's delta is stored as it is where it fits (R140). -/
theorem storeDelta_of_fits {df : Int} (h : fitsSigned 32 df = true) (s : State) :
    storeDelta df s = setPendDf df s := by simp [storeDelta, h]

/-- Where it does not, the register holds a free value (log entry 5). -/
theorem storeDelta_of_not_fits {df : Int} (h : fitsSigned 32 df = false) (s : State) :
    storeDelta df s = { s with pendDf := Config.freeDf s.freeCtr, freeCtr := s.freeCtr + 1 } := by
  simp [storeDelta, h]

@[simp] theorem storeDelta_pendDf (df : Int) (s : State) :
    (storeDelta df s).pendDf = if fitsSigned 32 df then store 32 df else Config.freeDf s.freeCtr := by
  unfold storeDelta; split <;> rfl

@[simp] theorem storeDelta_freeCtr (df : Int) (s : State) :
    (storeDelta df s).freeCtr = if fitsSigned 32 df then s.freeCtr else s.freeCtr + 1 := by
  unfold storeDelta; split <;> rfl

/-- The side-tone write of R174 happens in CW and in no other mode. -/
theorem sideToneOut_of_cw (s : State) :
    sideToneOut (some .cw) s = sideToneWrite (sideToneLevel s.params s.oscSin.toInt) s := rfl

theorem sideToneOut_of_not_cw {m : Option Mode} (h : m ≠ some .cw) (s : State) : sideToneOut m s = s := by
  simp [sideToneOut, h]

@[simp] theorem sideToneOut_stOut (m : Option Mode) (s : State) :
    (sideToneOut m s).stOut = if m = some .cw then sideToneLevel s.params s.oscSin.toInt else s.stOut := by
  unfold sideToneOut; split <;> rfl

@[simp] theorem sideToneOut_out (m : Option Mode) (s : State) :
    (sideToneOut m s).out = s.out ++
      if m = some .cw then [.sideToneWrite (sideToneLevel s.params s.oscSin.toInt)] else [] := by
  unfold sideToneOut; split <;> simp

/-- `PRL_STEP` (R136 to R140): the remembered phase and the delta. -/
@[simp] theorem prlStep_prevPhase (phase : Int) (s : State) :
    (prlStep phase s).prevPhase = store 32 (prlPrev s.params s.cfg.bw phase s.prevPhase.toInt) := by
  simp [prlStep]

theorem prlStep_pendDf (phase : Int) (s : State) :
    (prlStep phase s).pendDf =
      let df := prlFrequency s.params s.cfg.mode (prlDelta s.params s.cfg.bw phase s.prevPhase.toInt)
      if fitsSigned 32 df then store 32 df else Config.freeDf s.freeCtr := by
  simp [prlStep]

theorem prlStep_freeCtr (phase : Int) (s : State) :
    (prlStep phase s).freeCtr =
      let df := prlFrequency s.params s.cfg.mode (prlDelta s.params s.cfg.bw phase s.prevPhase.toInt)
      if fitsSigned 32 df then s.freeCtr else s.freeCtr + 1 := by
  simp [prlStep]

/-- `amp_raw` of the line as it stands (R103, R104). -/
def lineAmplitude (s : State) : Nat := magn (inPhase s.v) (quadrature s.params s.v)

/-- `phase` of the line as it stands (R103, R107). -/
def linePhase (s : State) : Int := arctan3 s.params (quadrature s.params s.v) (inPhase s.v)

/-- Step 5 of an SSB tick (R109): gate, then amplitude, then limiter. -/
theorem ssbShape_eq (s : State) :
    ssbShape s = prlStep (linePhase s)
      (ampSsb (lineAmplitude s) (gateStep (voxTrigger (lineAmplitude s) s.cfg.voxThr) s)) := rfl

@[simp] theorem ssbShape_gateCnt (s : State) :
    (ssbShape s).gateCnt =
      gateNext s.params.hangMax (voxTrigger (lineAmplitude s) s.cfg.voxThr) s.gateCnt := by
  simp [ssbShape_eq]

@[simp] theorem ssbShape_pendAmp (s : State) :
    (ssbShape s).pendAmp =
      if gateOn (ssbShape s).gateCnt then lutRead s.params (ampDrive (lineAmplitude s) s.cfg.drive) else 0 := by
  cases h : gateOn (ssbShape s).gateCnt <;> rw [ssbShape_gateCnt] at h <;> simp [ssbShape_eq, h]

@[simp] theorem ssbShape_prevPhase (s : State) :
    (ssbShape s).prevPhase = store 32 (prlPrev s.params s.cfg.bw (linePhase s) s.prevPhase.toInt) := by
  simp [ssbShape_eq]

/-- A tick in TRANSMIT, field by field that no mode decides (R174). -/
@[simp] theorem transmitTick_fsm (x : Int) (s : State) : (transmitTick x s).fsm = s.fsm := by
  simp [transmitTick]

@[simp] theorem transmitTick_cfg (x : Int) (s : State) : (transmitTick x s).cfg = s.cfg := by
  simp [transmitTick]

@[simp] theorem transmitTick_err (x : Int) (s : State) : (transmitTick x s).err = s.err := by
  simp [transmitTick]

@[simp] theorem transmitTick_busErr (x : Int) (s : State) : (transmitTick x s).busErr = s.busErr := by
  simp [transmitTick]

@[simp] theorem transmitTick_params (x : Int) (s : State) : (transmitTick x s).params = s.params := by
  simp [transmitTick]

@[simp] theorem transmitTick_inputs (x : Int) (s : State) : (transmitTick x s).inputs = s.inputs := by
  simp [transmitTick]

@[simp] theorem transmitTick_ampOut (x : Int) (s : State) : (transmitTick x s).ampOut = s.pendAmp := by
  simp [transmitTick]

/-- The registers follow the delta of the same tick (R161). -/
theorem transmitTick_synthRegs (x : Int) (s : State) :
    (transmitTick x s).synthRegs = regCalc s.params (transmitTick x s).pendDf := by
  simp [transmitTick]

/-- What the mode's encoder computes goes into the registers it writes. -/
theorem transmitTick_eq_modeTick (x : Int) (s : State) :
    let m := modeOfBits s.cfg.mode
    let t := modeTick m x (ampCommit (synthXfer s))
    (transmitTick x s).hpfDc = t.hpfDc ∧ (transmitTick x s).v = t.v ∧
    (transmitTick x s).gateCnt = t.gateCnt ∧ (transmitTick x s).pendAmp = t.pendAmp ∧
    (transmitTick x s).prevPhase = t.prevPhase ∧ (transmitTick x s).pendDf = t.pendDf ∧
    (transmitTick x s).freeCtr = t.freeCtr ∧ (transmitTick x s).rampIdx = t.rampIdx ∧
    (transmitTick x s).oscSin = t.oscSin ∧ (transmitTick x s).oscCos = t.oscCos := by
  simp [transmitTick]

/-- The carrier-enable observable after a tick (R150, R180). -/
theorem transmitTick_carEn (x : Int) (s : State) :
    (transmitTick x s).carEn = ceNew (modeOfBits s.cfg.mode) (transmitTick x s).gateCnt := by
  simp [transmitTick]

/-- The shadow of the enable register after a tick (R150). -/
theorem transmitTick_carReg (x : Int) (s : State) :
    (transmitTick x s).carReg =
      if (transmitTick x s).carEn = s.carEn then s.carReg else (transmitTick x s).carEn := by
  simp [transmitTick]

/-- The side-tone level after a tick (R93, R174). -/
theorem transmitTick_stOut (x : Int) (s : State) :
    (transmitTick x s).stOut =
      if modeOfBits s.cfg.mode = some .cw then sideToneLevel s.params (transmitTick x s).oscSin.toInt
      else s.stOut := by
  simp [transmitTick]

/-- The trace of a tick in TRANSMIT (R174, R63). -/
theorem transmitTick_out (x : Int) (s : State) :
    (transmitTick x s).out = s.out ++ [.bulkWrite s.synthRegs, .ampWrite s.pendAmp]
      ++ (if (transmitTick x s).carEn = s.carEn then [] else [.carrierEnableWrite (transmitTick x s).carEn])
      ++ (if modeOfBits s.cfg.mode = some .cw then [.sideToneWrite (transmitTick x s).stOut] else []) := by
  rw [transmitTick_stOut, transmitTick_carEn]
  by_cases h : modeOfBits s.cfg.mode = some .cw <;> simp [transmitTick, h]

/-- `exec` of a tick in TRANSMIT. -/
theorem execTick_transmit {s : State} (h : s.fsm = .transmit) (x : BitVec 16) :
    execTick x s = .next (transmitTick x.toInt (beginEvent s)) := by
  simp [execTick, h, sampleValue]

/-- `exec` of a tick in IDLE (R173). -/
theorem execTick_idle {s : State} (h : s.fsm = .idle) (x : BitVec 16) :
    execTick x s = .next (beginEvent s) := by
  simp [execTick, h]

/-- `CFG` in its two cases (R181). -/
theorem execCfg_cases (m : BitVec 3) (b : BitVec 2) (d : BitVec 4) (v : BitVec 16) (s : State) :
    (∃ bw, bwOfBits b = some bw ∧ (modeOfBits m).isSome ∧
      execCfg m b d v s = .next { beginEvent s with cfg := ⟨m, bw, d, v⟩ }) ∨
    ((modeOfBits m = none ∨ bwOfBits b = none) ∧ execCfg m b d v s = .next (takeIllegalWord s)) := by
  unfold execCfg
  split
  · next h1 h2 => exact .inl ⟨_, h2, by simp [h1], rfl⟩
  · next h =>
    refine .inr ⟨?_, rfl⟩
    by_contra hc
    simp only [not_or, ← ne_eq, Option.ne_none_iff_exists'] at hc
    obtain ⟨⟨a, ha⟩, c, hc⟩ := hc
    exact h a c ha hc

end Sys2Proof.Machine
end

