-- ==== Sys2Proof/Laws/PerInstr.lean ====
section
/-! SUPPORT. Statements made per instruction. `EncodeMatchesTable`: the encoding of an instruction has the match value of its row
of spec/opcode_table.json under the row's mask (spec/30_encoding.md R72 to R78). -/

namespace Sys2Proof.Laws.EncodeMatchesTable

/-- The encoding of `i` is a word of `i`'s row. -/
def Statement (i : Instr) : Prop := encode i &&& tableMask i = tableMatch i

theorem nop : Statement .nop := rfl

theorem cfg (mode : BitVec 3) (bw : BitVec 2) (drive : BitVec 4) (voxThr : BitVec 16) :
    Statement (.cfg mode bw drive voxThr) := by
  apply BitVec.eq_of_getLsbD_eq
  intro k hk
  simp only [encode, tableMask, tableMatch, BitVec.getLsbD_and, BitVec.getLsbD_append]
  interval_cases k <;> simp

theorem pttOff : Statement .pttOff := rfl

theorem pttOn : Statement .pttOn := rfl

theorem tick (sample : BitVec 16) : Statement (.tick sample) := by
  apply BitVec.eq_of_getLsbD_eq
  intro k hk
  simp only [encode, tableMask, tableMatch, BitVec.getLsbD_and, BitVec.getLsbD_append]
  interval_cases k <;> simp

theorem rd (idx : BitVec 4) : Statement (.rd idx) := by
  apply BitVec.eq_of_getLsbD_eq
  intro k hk
  simp only [encode, tableMask, tableMatch, BitVec.getLsbD_and, BitVec.getLsbD_append]
  interval_cases k <;> simp

theorem berr : Statement .berr := rfl

theorem reset : Statement .reset := rfl

end Sys2Proof.Laws.EncodeMatchesTable
end

