-- ==== Sys2Proof/Tests/Slice0.lean ====
section
/-! SUPPORT. Tests of single steps, with the expected values of spec/95_test_vectors.md and spec/30_encoding.md R87, and one
witness per obligation that has hypotheses: a concrete state and operands that meet them together. -/

namespace Sys2Proof.Tests

open Sys2Proof Sys2Proof.Machine

/-- The state an outcome goes on with; on a stop, the state given. -/
def goesTo (o : Host.Outcome State Fault Refusal) (s : State) : State :=
  match o with
  | .next t => t
  | .fault _ => s
  | .refused _ => s

/-- The state after one instruction. -/
def after (i : Instr) (s : State) : State := goesTo (exec i s) s

/-- The reset state in TRANSMIT with a configuration, the carrier on. -/
def onAir (mode : BitVec 3) (bw : Bandwidth) (drive : BitVec 4) (voxThr : BitVec 16) : State :=
  { State.reset with
    fsm := .transmit, carReg := true, carEn := !isSsb mode
    cfg := { mode := mode, bw := bw, drive := drive, voxThr := voxThr } }

/-- An event with nothing but its trace left of it. -/
def traceTail (s : State) : List OutEvent := s.out.tail

/-! ## Well-formedness and decoding -/

/-- R80 (2): mode 5. -/
theorem test_wellFormed_refuses_mode : (Instr.cfg 5 0 0 0).wellFormed = false := by decide

/-- R80 (3): bandwidth 3. -/
theorem test_wellFormed_refuses_bandwidth : (Instr.cfg 0 3 0 0).wellFormed = false := by decide

/-- R87, group A: `NOP` with its free bits set. -/
theorem test_decode_nop : decode 0b0000_1111111111111111111111111111 = .ok .nop := by decide

/-- R87: `cfg mode=LSB bw=QUARTER drive=3 vox=100`, field by field. -/
theorem test_decode_cfg :
    decode 0b0001_000_0000000001100100_0011_10_001 = .ok (.cfg 1 2 3 100) ∧ encode (.cfg 1 2 3 100) = 0x1000C871 := by decide

/-- Group A: `PTT_ON` and `PTT_OFF` differ in bit 0 only. -/
theorem test_decode_ptt :
    decode 0b0010_111111111111111111111111111_1 = .ok .pttOn ∧
    decode 0b0010_111111111111111111111111111_0 = .ok .pttOff := by decide

/-- Group A: `TICK` with the ignored bits set, and the encodings of `tick -3` and `tick -1414`. -/
theorem test_decode_tick :
    decode 0b0011_111111111111_1000000000000000 = .ok (.tick (-32768)) ∧
    encode (.tick (-3)) = 0x3000FFFD ∧ encode (.tick (-1414)) = 0x3000FA7A := by decide

/-- Group A: `RD` index 1 with the ignored bits set. -/
theorem test_decode_rd : decode 0b0100_111111111111111111111111_0001 = .ok (.rd 1) := by decide

/-- Group A: `BERR` and `RESET`. -/
theorem test_decode_berr_reset : decode 0x5ABCDEF0 = .ok .berr ∧ decode 0xFFFFFFFF = .ok .reset := by decide

/-- R80 (1): the first and the last reserved operation. -/
theorem test_decode_refuses_reserved :
    decode 0x60000000 = .error (.reservedOperation 6) ∧ decode 0xEFFFFFFF = .error (.reservedOperation 14) := by decide

/-- The host's view of a word of the opcode table. -/
theorem test_decodeTableWord :
    decodeTableWord 32 0x300003E8 = some (.tick 1000) ∧ decodeTableWord 32 0x70000000 = none := by decide

/-! ## One step of each instruction -/

/-- A placed word is the first thing that runs: `ptt on` from reset in USB (R171). -/
theorem test_step_runs_placed_word :
    (goesTo (step (State.reset.withFetchWord 32 0x20000001)) State.reset).out = [.carrierEnableWrite true] := by decide

/-- R80, R185: a reserved word sets `err` and emits nothing. -/
theorem test_step_illegal :
    let t := goesTo (step (State.reset.withFetchWord 32 0x60000000)) State.reset
    t.err = true ∧ t.out = [] ∧ t.fsm = .idle := by decide

/-- R184. -/
theorem test_nop : (after .nop { State.reset with out := [.ampWrite 9] }).out = [] := by decide

/-- R181: `cfg mode=CW drive=15`, read back (group A). -/
theorem test_cfg_read_back : hostReg (after (.cfg 4 0 15 0) State.reset) 0 = 0x000001E4 := by decide

/-- R181: `CFG` with bandwidth 3 sets `err` and keeps the record (group A). -/
theorem test_cfg_illegal :
    let t := after (.cfg 0 3 0 0) (after (.cfg 4 2 0 0) State.reset)
    hostReg t 0 = 0x00000014 ∧ t.err = true := by decide

/-- R172: in CW in mid-ramp (program 1 row 9). -/
theorem test_pttOff :
    let t := after .pttOff { onAir 4 .full 0 0 with rampIdx := 27, pendAmp := 21 }
    t.out = [.ampWrite 0, .carrierEnableWrite false] ∧ hostReg t 1 = 0x00001F00 := by decide

/-- R171: the `STATUS` word after `ptt on` in USB and in CW (R41). -/
theorem test_pttOn_status :
    hostReg (after .pttOn State.reset) 1 = 0x00001F05 ∧
    hostReg (after .pttOn { State.reset with cfg := ⟨4, .full, 0, 0⟩ }) 1 = 0x00001F07 := by decide

/-- R171: no edge, no trace. -/
theorem test_pttOn_twice : (after .pttOn (onAir 2 .full 0 0)).out = [] := by decide

/-- The USB tick worked out in R175 (vox 4): gate, amplitude, limiter and trace. -/
theorem test_tick_usb :
    let t := after (.tick 1000) (onAir 0 .full 0 4)
    t.hpfDc = 333 ∧ t.v.v14 = 667 ∧ t.gateCnt = 255 ∧ t.pendAmp = 20 ∧ t.pendDf = 3600 ∧ t.prevPhase.toInt = -150 ∧
    traceTail t = [.ampWrite 0, .carrierEnableWrite true] := by decide +kernel

/-- H1 (AM, x = 10, drive 2), H2 (FM, x = -3, drive 4), B1 and F4 (the first CW tick). -/
theorem test_tick_am_fm_cw :
    (after (.tick 10) (onAir 2 .full 2 0)).pendAmp = 72 ∧ (after (.tick (-3)) (onAir 3 .full 4 0)).pendDf.toInt = -48 ∧
    let t := after (.tick 0) (onAir 4 .full 0 0)
    t.pendAmp = 2 ∧ t.rampIdx = 30 ∧ (t.oscSin, t.oscCos) = (87, 45) ∧ traceTail t = [.ampWrite 0, .sideToneWrite 215] := by
  decide +kernel

/-- I1, program 4 row 22: `OSC` at reset, and a negative delta read whole. -/
theorem test_rd :
    (after (.rd 6) State.reset).out = [.rdData 0x00007000] ∧
    (after (.rd 4) { State.reset with pendDf := -1200 }).out = [.rdData 0xFFFFFB50] := by decide

/-- I2: the count saturates. -/
theorem test_berr :
    (after .berr { State.reset with busErr := 0xFFFE }).busErr = 0xFFFF ∧
    (after .berr { State.reset with busErr := 0xFFFF }).busErr = 0xFFFF := by decide

/-- R48, I1: `AMP` and `STATUS` after a reset in mid transmission. -/
theorem test_reset :
    let t := after .reset { onAir 4 .half 3 7 with ampOut := 3, pendAmp := 5, stOut := 9, err := true, rampIdx := 2 }
    hostReg t 3 = 0x00800000 ∧ hostReg t 1 = 0x00001F00 ∧ t.out = [] := by decide

/-! ## The operations behind a tick -/

/-- B2, step 3: truncation toward zero. -/
theorem test_oscillator_truncates :
    oscSinNext Params.p0 122 (-50) = 84 ∧ oscCosNext Params.p0 84 (-50) = -115 := by decide

/-- B4, step 1: the wrap and the side-tone shift, with the values that vector changes. -/
theorem test_oscillator_wraps :
    let P := { Params.p0 with oscAlpha := 200, stShift := 2 }
    oscSinNext P 0 100 = -99 ∧ oscCosNext P (-99) 100 = -1 ∧ sideToneLevel P (-99) = 103 := by decide

/-- C1, the fifth step, and C4, tick 5. -/
theorem test_filters :
    hpfAverage Params.p0 (-1000) (-33) = -355 ∧
    quadrature Params.p0 { DelayLine.zero with v10 := 1000 } = -328 := by decide

/-- C6. -/
theorem test_magnitude : magn (-100) 40 = 110 ∧ magn 5 3 = 5 ∧ magn 131070 (-227324) = 260091 := by decide

/-- C8, the worked lines. -/
theorem test_arctan :
    arctan3 Params.p0 1355 (-84) = 156 ∧ arctan3 Params.p0 (-227324) (-65535) = -177 ∧
    arctan3 Params.p0 (-1) (-32768) = -300 ∧ arctan3 Params.p0 0 0 = 0 := by decide

/-- G8 and G7, tick 2. -/
theorem test_limiter :
    prlDelta Params.p0 .full 300 (-300) = 600 ∧ prlDelta Params.p0 .full (-300) 300 = 0 ∧
    prlDelta Params.p0 .quarter (-300) 0 = 150 ∧ prlPrev Params.p0 .quarter (-300) 0 = -450 := by decide

/-- F1, F2 with P1, F4. -/
theorem test_shaper :
    ampDrive 1 7 = 128 ∧ ampDrive 260091 15 = 255 ∧ lutRead Params.p1 80 = 76 ∧ lutRead Params.p1 127 = 109 ∧
    rampLevel Params.p0 (rampWeight Params.p0 31) = 2 ∧ rampLevel Params.p0 (rampWeight Params.p0 2) = 254 := by
  decide +kernel

/-- Group D, `HANG_MAX` 5: T T n. -/
theorem test_gate :
    gateNext 5 true 0 = 5 ∧ gateNext 5 true 5 = 4 ∧ gateNext 5 false 4 = 3 ∧ gateNext 5 false 0 = 0 := by decide

/-! ## Text -/

/-- R84, R87. -/
theorem test_assemble_cfg :
    (parseLine "CFG bw=quarter mode=LSB drive=3 vox=0x64 # the third row".toList).map assemble = some [0x1000C871] := by decide

/-- R85. -/
theorem test_assemble_pseudo :
    (parseLine "tick -3 * 2".toList).map assemble = some [0x3000FFFD, 0x3000FFFD] ∧
    (parseLine "key up".toList).map assemble = some [0x20000000] := by decide

/-- R86. -/
theorem test_spell :
    spellTrace [.bulkWrite [0xFB, 0x50], .ampWrite 40, .carrierEnableWrite true, .rdData 0xFFFFFB50]
      = "[BULK(FB 50), AMP(40), CE(1), RD(0xFFFFFB50)]".toList := by decide

/-! ## Witnesses: the hypotheses of each obligation can be met -/

/-- The default record is admissible (R5). -/
theorem p0_admissible : Params.p0.Admissible := by constructor <;> decide +kernel

/-- Every state built by `onAir` with a legal mode meets the invariants, whatever its delay line of legal entries. -/
theorem onAir_inv (mode : BitVec 3) (bw : Bandwidth) (drive : BitVec 4) (voxThr : BitVec 16) (h : mode.toNat ≤ 4) :
    Inv (onAir mode bw drive voxThr) where
  params_admissible := p0_admissible
  idle_quiet h := nomatch h
  gate_bounded := Nat.zero_le _
  regs_follow := rfl
  mode_legal := h
  amp_out_legal := .inl rfl
  pend_amp_legal := .inl rfl
  line_legal e he := by
    simp only [onAir, State.reset, DelayLine.zero, DelayLine.toList, List.mem_cons, List.not_mem_nil, or_false, or_self] at he
    subst he; exact Nat.zero_le _

theorem witness_StepRunsDecodedEvent :
    nextEvent [[], [0x30000001, 0x50000000]] = some (0x50000000, [[0x30000001]]) ∧ decode 0x50000000 = .ok .berr ∧
    ({ State.reset with inputs := [[0x2FFFFFFF], []] } : State).inputs = [0x2FFFFFFF] :: [[]] ∧
    decode 0x2FFFFFFF = .ok .pttOn := by decide

theorem witness_NoEventChangesNoRegister : ∀ ws ∈ ({ State.reset with inputs := [[], []] } : State).inputs, ws = [] := by
  decide

theorem witness_SimultaneousEventsInOrder :
    let s := { State.reset with inputs := [[0x30000001, 0x10000004, 0x50000000, 0x20000001]] }
    s.inputs = [0x30000001, 0x10000004, 0x50000000, 0x20000001] :: [] ∧
    nextEvent s.inputs = some (0x10000004, [[0x30000001, 0x50000000, 0x20000001]]) ∧
    nextEvent [[0x30000001, 0xF0000000], [0x00000000]] = some (0xF0000000, [[0x00000000]]) := by decide

theorem witness_EncodeOfDecodeUpToIgnoredBits :
    decode 0x4FFFFFF1 = .ok (.rd 1) ∧ (0x40000001 : Word) &&& formatMask (.rd 1) = 0x4FFFFFF1 &&& formatMask (.rd 1) := by
  decide

theorem witness_AssemblerWritesLegalWords :
    (∀ u, AsmLine.tickTimes 5 2 ≠ .word u) ∧ (0x30000005 : Word) ∈ assemble (.tickTimes 5 2) :=
  ⟨fun _ => by simp, by decide⟩

theorem witness_IllegalWordOnlySetsErr :
    (∃ w : Word, ({ State.reset with inputs := [[w]] } : State).inputs = [w] :: [] ∧ (opcode w).toNat = 6) ∧
    (∃ w : Word, ({ State.reset with inputs := [[w]] } : State).inputs = [w] :: [] ∧ (opcode w).toNat = 14) ∧
    (∃ w : Word, opcode w = 1 ∧ (w.extractLsb' 0 3).toNat = 5) ∧
    (∃ w : Word, opcode w = 1 ∧ (w.extractLsb' 0 3).toNat = 7) ∧
    (∃ w : Word, opcode w = 1 ∧ (w.extractLsb' 3 2).toNat = 3) :=
  ⟨⟨0x60000000, by decide⟩, ⟨0xE0000000, by decide⟩, ⟨0x10000005, by decide⟩, ⟨0x10000007, by decide⟩, ⟨0x10000018, by decide⟩⟩

theorem witness_CfgPublishesWholeRecord :
    (4 : BitVec 3).toNat ≤ 4 ∧ 4 < (5 : BitVec 3).toNat ∧ (3 : BitVec 2).toNat = 3 := by decide

theorem witness_RdEmitsHostRegister : 7 ≤ (7 : BitVec 4).toNat ∧ 7 ≤ (15 : BitVec 4).toNat := by decide

theorem witness_HostOscAndHiddenRegisters : 7 ≤ (7 : BitVec 4).toNat ∧ (onAir 0 .full 0 0).fsm = .transmit := by decide

theorem witness_ResetStateIsWhatResetLeaves :
    let s := { onAir 4 .full 0 0 with busErr := 3, v := { DelayLine.zero with v3 := 7 } }
    s.params = Params.p0 ∧ s.inputs = [] ∧ s.freeCtr = 0 := ⟨rfl, rfl, rfl⟩

theorem witness_PttOnOpensTheGateOnce : State.reset.fsm = .idle ∧ (onAir 2 .half 1 9).fsm = .transmit := by decide

theorem witness_CancellationHoldsUntilPttOn :
    ∀ i ∈ [Instr.cfg 4 0 0 0, .tick 9, .berr, .rd 1, .pttOff, .reset, .nop], i ≠ .pttOn := by decide

theorem witness_TickInIdleDoesNothing : State.reset.fsm = .idle := by decide

theorem witness_TransmitTickTrace : (onAir 4 .full 0 0).fsm = .transmit ∧ (onAir 7 .full 0 0).fsm = .transmit := by decide

theorem witness_AmTickResult : (onAir 2 .full 2 0).fsm = .transmit ∧ (onAir 2 .full 2 0).cfg.mode = 2 := by decide

theorem witness_FmTickResult : (onAir 3 .full 15 0).fsm = .transmit ∧ (onAir 3 .full 15 0).cfg.mode = 3 := by decide

theorem witness_CwTickResult :
    let s := fun k => { onAir 4 .full 0 0 with rampIdx := k }
    (s 0).fsm = .transmit ∧ (s 0).cfg.mode = 4 ∧ (s 0).rampIdx = 0 ∧
    (s 1).rampIdx.toNat = (0 : Fin 31).val + 1 ∧ (s 31).rampIdx.toNat = (30 : Fin 31).val + 1 := by decide

theorem witness_UnreachableModeDegradesToCarrierOff :
    (onAir 5 .full 0 0).fsm = .transmit ∧ 4 < (onAir 5 .full 0 0).cfg.mode.toNat ∧ 4 < (onAir 7 .full 0 0).cfg.mode.toNat := by
  decide

theorem witness_SsbTickFiltersAndShifts :
    (onAir 0 .full 0 0).fsm = .transmit ∧ (onAir 0 .full 0 0).cfg.mode = 0 ∧ (onAir 1 .full 0 0).cfg.mode = 1 := by decide

theorem witness_HilbertIsOddSymmetric :
    let d := { DelayLine.zero with v0 := 5, v6 := -7, v7 := 9 }
    let e := { DelayLine.zero with v0 := -5, v6 := 7, v7 := -9 }
    e.toList.map BitVec.toInt = d.toList.map (fun b => -b.toInt) := by decide

theorem witness_SsbBoundsWithP0 :
    ∀ e ∈ ({ DelayLine.zero with v6 := 65535, v8 := -65535 } : DelayLine).toList, LegalEntry e := by
  intro e he
  simp only [DelayLine.zero, DelayLine.toList, List.mem_cons, List.not_mem_nil, or_false] at he
  rcases he with h | h | h | h | h | h | h | h | h | h | h | h | h | h | h <;> subst h <;> unfold LegalEntry <;> decide

/-- An LSB state with a VOX threshold and a gate count. -/
def gated (voxThr gateCnt : BitVec 16) : State := { onAir 1 .full 0 voxThr with gateCnt := gateCnt }

/-- `amp_raw` of the line that a sample of 1000 leaves. -/
def rawAfter1000 (s : State) : Nat :=
  magn (inPhase (after (.tick 1000) s).v) (quadrature s.params (after (.tick 1000) s).v)

/-- Each clause on the gate and the amplitude is reached: a sample of 1000 leaves an amplitude of 20 in the line. -/
theorem witness_SsbTickGateAndAmplitude :
    (gated 19 0).params.Admissible ∧ (gated 19 0).fsm = .transmit ∧ (gated 19 0).cfg.mode = 1 ∧
    rawAfter1000 (gated 19 0) = 20 ∧ (gated 19 0).cfg.voxThr.toNat < 20 ∧ (gated 19 0).gateCnt = 0 ∧
    rawAfter1000 (gated 19 1) = 20 ∧ (gated 19 1).gateCnt ≠ 0 ∧
    rawAfter1000 (gated 20 1) = 20 ∧ 20 ≤ (gated 20 1).cfg.voxThr.toNat ∧ (after (.tick 1000) (gated 20 1)).gateCnt = 0 ∧
    (after (.tick 1000) (gated 19 0)).gateCnt ≠ 0 ∧ (20 : Fin 256).val = min 255 (20 * 2 ^ (gated 19 0).cfg.drive.toNat) :=
  ⟨p0_admissible, by decide +kernel⟩

/-- Each row of the table is reached, the observable in agreement with the gate. -/
theorem witness_SsbGateTable :
    let row := fun (g : BitVec 16) (on : Bool) => { gated 19 g with carEn := on }
    Params.p0.Admissible ∧ (row 0 false).fsm = .transmit ∧ (row 0 false).cfg.mode = 1 ∧
    (row 0 false).carEn = decide (0 < (row 0 false).gateCnt.toNat) ∧ (row 2 true).carEn = decide (0 < (row 2 true).gateCnt.toNat) ∧
    (row 0 false).cfg.voxThr.toNat < rawAfter1000 (row 0 false) ∧ (row 1 true).cfg.voxThr.toNat < rawAfter1000 (row 1 true) ∧
    (after (.tick 0) (row 2 true)).gateCnt = 1 ∧ (after (.tick 0) (row 1 true)).gateCnt = 0 ∧
    (after (.tick 0) (row 0 false)).gateCnt = 0 ∧ traceTail (after (.tick 0) (row 1 true)) = [.ampWrite 0, .carrierEnableWrite false] := by
  intro row
  exact ⟨p0_admissible, by decide +kernel⟩

/-- The premise that the delta fits is met: the tick of R175 gives 450 ticks of phase, in USB and LSB, and 150 when clamped. -/
theorem witness_SsbTickLimiter :
    (onAir 0 .full 0 4).params.Admissible ∧ (onAir 0 .full 0 4).fsm = .transmit ∧ (onAir 0 .full 0 4).cfg.mode = 0 ∧
    (-2 ^ 31 ≤ (450 * 8 : Int) ∧ (450 * 8 : Int) < 2 ^ 31) ∧
    (after (.tick 1000) (onAir 0 .full 0 4)).pendDf.toInt = 450 * 8 ∧
    (after (.tick 1000) (onAir 1 .full 0 4)).pendDf.toInt = -(450 * 8) ∧
    (after (.tick 1000) (onAir 0 .quarter 0 4)).pendDf.toInt = 150 * 8 :=
  ⟨p0_admissible, by decide +kernel⟩

theorem witness_UsbAndLsbMirror :
    let s := { onAir 3 .full 0 0 with prevPhase := 300 }
    s.fsm = .transmit ∧ s.params.Admissible ∧ s.params.fs < 2 ^ 31 ∧ s.prevPhase.toInt ≤ ((s.params.ua / 2 : Nat) : Int) :=
  ⟨rfl, p0_admissible, by decide, by decide⟩

/-- Each premise of a changed register is met by an event that the conclusion names. -/
theorem witness_RegisterWriters :
    (after .pttOn State.reset).fsm ≠ State.reset.fsm ∧ (after (.cfg 4 0 0 0) State.reset).cfg ≠ State.reset.cfg ∧
    (after (.cfg 5 0 0 0) State.reset).err ≠ State.reset.err ∧ (after .berr State.reset).busErr ≠ State.reset.busErr ∧
    (after (.tick 0) (onAir 4 .full 0 0)).oscSin ≠ (onAir 4 .full 0 0).oscSin ∧
    (after (.tick 1000) (onAir 0 .full 0 0)).hpfDc ≠ (onAir 0 .full 0 0).hpfDc ∧
    (after (.tick 1000) (onAir 0 .full 0 0)).gateCnt ≠ (onAir 0 .full 0 0).gateCnt ∧
    (after (.tick 0) (onAir 4 .full 0 0)).rampIdx ≠ (onAir 4 .full 0 0).rampIdx ∧
    (after (.tick 1000) (onAir 0 .full 0 0)).carEn ≠ (onAir 0 .full 0 0).carEn ∧
    (after (.tick 0) (onAir 2 .full 0 0)).pendAmp ≠ (onAir 2 .full 0 0).pendAmp := by decide +kernel

/-- The free value counter moves only where the delta does not fit, which needs a remembered phase far below any phase. -/
theorem witness_RegisterWriters_freeCtr :
    let s := { onAir 0 .full 0 0 with
      params := { Params.p0 with fs := 2 ^ 32, ua := 22 }, prevPhase := -22 }
    (after (.tick 1000) s).freeCtr ≠ s.freeCtr := by decide +kernel

theorem witness_DiagnosticsStickyAndUnread :
    (∃ t, exec (.tick 5) { onAir 3 .full 0 0 with err := true } = .next t) ∧ Instr.tick 5 ≠ .reset ∧
    ({ onAir 3 .full 0 0 with err := true } : State).err = true := ⟨⟨_, rfl⟩, by decide, rfl⟩

/-- The premise is met by a CW tick, whose traces do differ in the side tone. -/
theorem witness_OscillatorIsIsolated :
    (∀ idx, Instr.tick 0 ≠ .rd idx) ∧
    traceTail (after (.tick 0) (onAir 4 .full 0 0)) ≠ traceTail (after (.tick 0) { onAir 4 .full 0 0 with oscCos := 0 }) :=
  ⟨fun _ => by simp, by decide⟩

theorem witness_AtanOctantRange : Params.p0.Admissible ∧ (0 ≤ 1 ∧ 0 < 1) ∧ (1 ≤ 1 ∧ 0 < 1) := ⟨p0_admissible, by decide⟩

theorem witness_PhaseEstimateRangeAndAxes :
    Params.p0.Admissible ∧ ((0 : Int) = 0 ∧ (0 : Int) ≤ 0) ∧ ((0 : Int) = 0 ∧ (-1 : Int) < 0) ∧
    ((0 : Int) < 1 ∧ (0 : Int) = 0) ∧ ((-1 : Int) < 0 ∧ (0 : Int) = 0) := ⟨p0_admissible, by decide⟩

theorem witness_LimiterEmitsWithinRange :
    Params.p0.Admissible ∧ -(uaHalf Params.p0 : Int) ≤ -300 ∧ (-300 : Int) ≤ uaHalf Params.p0 ∧
    -2 ^ 31 + 2 * (Params.p0.ua : Int) ≤ 300 ∧ (300 : Int) ≤ uaHalf Params.p0 := ⟨p0_admissible, by decide⟩

theorem witness_LimiterConservesPhase :
    Params.p0.Admissible ∧ (∀ _ : Nat, -(uaHalf Params.p0 : Int) ≤ 0 ∧ (0 : Int) ≤ uaHalf Params.p0) ∧
    (∀ k, k < 3 → -2 ^ 31 + 2 * (Params.p0.ua : Int) ≤ (fun _ : Nat => (0 : Int)) k) ∧
    (0 : Int) ≤ uaHalf Params.p0 ∧
    (∀ k : Nat, (fun _ => (0 : Int)) (k + 1) = prlPrev Params.p0 .quarter 0 ((fun _ => (0 : Int)) k)) :=
  ⟨p0_admissible, fun _ => by decide, fun _ _ => by simp [Params.p0], by decide, fun _ => by simp only; decide⟩

theorem witness_HangTime : (2 ≤ 2 ∧ 2 ≤ 65535) ∧ (1 : BitVec 16) ≠ 0 ∧ (2 ≤ 65535 ∧ 65535 ≤ 65535) ∧ (0 : BitVec 16) = 0 := by
  decide

theorem witness_CwRiseReachesFullScale :
    (onAir 4 .full 0 0).fsm = .transmit ∧ (onAir 4 .full 0 0).cfg.mode = 4 ∧ (onAir 4 .full 0 0).rampIdx = 31 ∧
    (onAir 4 .full 0 0).params.Admissible ∧ [(0 : BitVec 16)] ≠ [] ∧ (30 : Fin 31).val + [(0 : BitVec 16)].length = 31 ∧
    (0 : Fin 31).val + (List.replicate 31 (0 : BitVec 16)).length = 31 ∧ 31 ≤ (List.replicate 31 (0 : BitVec 16)).length :=
  ⟨rfl, rfl, rfl, p0_admissible, by decide, by decide, by decide, by decide⟩

theorem witness_CwLevelsRise : Params.p0.Admissible ∧ (0 : Fin 31) < 30 ∧ Params.p0.lut.get 255 = 255 :=
  ⟨p0_admissible, by decide, by decide +kernel⟩

theorem witness_OscillatorOrbitWithP0 :
    State.reset.params = Params.p0 ∧ State.reset.oscSin = 0 ∧ State.reset.oscCos = 112 := ⟨rfl, rfl, rfl⟩

theorem witness_SilenceGoesQuiet :
    Inv (onAir 0 .full 0 0) ∧ (onAir 0 .full 0 0).fsm = .transmit ∧ (onAir 0 .full 0 0).cfg.mode = 0 ∧
    32768 + 15 + (onAir 0 .full 0 0).params.hangMax ≤ 33038 := ⟨onAir_inv _ _ _ _ (by decide), rfl, rfl, by decide⟩

/-- From a residual of 450 ticks owed, as in program 4. -/
theorem witness_SilenceReachesSteadyState :
    let s := { onAir 1 .quarter 1 0 with prevPhase := -450 }
    Inv s ∧ s.fsm = .transmit ∧ s.cfg.mode = 1 ∧ -2 ^ 29 ≤ s.prevPhase.toInt ∧ s.prevPhase.toInt ≤ uaHalf s.params ∧
    32785 + s.params.hangMax + (s.prevPhase.toInt.natAbs + 32783 * s.params.ua) / maxDp s.params s.cfg.bw ≤ 164176 :=
  have h := onAir_inv 1 .quarter 1 0 (by decide)
  ⟨⟨p0_admissible, fun h => (nomatch h), h.gate_bounded, rfl, h.mode_legal, .inl rfl, .inl rfl, h.line_legal⟩,
    rfl, rfl, by decide, by decide, by decide⟩

theorem witness_SilentSteadyState :
    let s := onAir 1 .half 2 3
    s.fsm = .transmit ∧ s.cfg.mode = 1 ∧ s.hpfDc = 0 ∧ (∀ e ∈ s.v.toList, e = 0) ∧ s.prevPhase = 0 ∧ s.gateCnt = 0 ∧
    s.carEn = false ∧ s.pendAmp = 0 ∧ s.ampOut = 0 ∧ s.pendDf = 0 ∧ s.synthRegs = regCalc s.params 0 :=
  ⟨rfl, rfl, rfl, by simp [onAir, State.reset, DelayLine.zero, DelayLine.toList], rfl, rfl, rfl, rfl, rfl, rfl, rfl⟩

theorem witness_PipelineDelaysOneTick :
    let s := { State.reset with hpfDc := 5, prevPhase := -66, stOut := 7 }
    (onAir 2 .full 0 0).fsm = .transmit ∧ s.fsm = .idle ∧ Inv s :=
  have h := onAir_inv 0 .full 0 0 (by decide)
  ⟨rfl, rfl, ⟨p0_admissible, fun _ => ⟨rfl, rfl, rfl, rfl, rfl, rfl, rfl⟩, Nat.zero_le _, rfl, h.mode_legal, .inl rfl, .inl rfl,
    h.line_legal⟩⟩

theorem witness_InvariantsKeptByEveryStep :
    Inv (onAir 0 .full 0 4) ∧ ∃ t, step ((onAir 0 .full 0 4).withFetchWord 32 0x300003E8) = .next t :=
  ⟨onAir_inv _ _ _ _ (by decide), _, rfl⟩

end Sys2Proof.Tests
end

namespace Sys2Proof.Machine

/-! ## R18, R200: every event completes -/

theorem execCfg_completes (mode : BitVec 3) (bw : BitVec 2) (drive : BitVec 4) (voxThr : BitVec 16) (s : State) :
    ∃ t, execCfg mode bw drive voxThr s = .next t := by
  obtain ⟨_, _, _, h⟩ | ⟨_, h⟩ := execCfg_cases mode bw drive voxThr s
  · exact ⟨_, h⟩
  · exact ⟨_, h⟩

theorem execTick_completes (sample : BitVec 16) (s : State) : ∃ t, execTick sample s = .next t := by
  cases h : s.fsm with
  | idle => exact ⟨_, execTick_idle h sample⟩
  | transmit => exact ⟨_, execTick_transmit h sample⟩

/-- `PTT_ON` on an edge (R171). -/
theorem execPttOn_idle {s : State} (h : s.fsm = .idle) :
    execPttOn s = .next (openTransmitGate (beginEvent s)) := by
  simp [execPttOn, h]

/-- `PTT_ON` with no edge (R171). -/
theorem execPttOn_transmit {s : State} (h : s.fsm = .transmit) : execPttOn s = .next (beginEvent s) := by
  simp [execPttOn, h]

theorem execPttOn_completes (s : State) : ∃ t, execPttOn s = .next t := by
  cases h : s.fsm with
  | idle => exact ⟨_, execPttOn_idle h⟩
  | transmit => exact ⟨_, execPttOn_transmit h⟩

theorem exec_completes (i : Instr) (s : State) : ∃ t, exec i s = .next t := by
  cases i with
  | cfg mode bw drive voxThr => exact execCfg_completes mode bw drive voxThr s
  | tick sample => exact execTick_completes sample s
  | pttOn => exact execPttOn_completes s
  | nop | pttOff | rd | berr | reset => exact ⟨_, rfl⟩

/-- A word that decodes runs its instruction. -/
theorem deliver_of_decode_ok {w : Word} {i : Instr} (h : decode w = .ok i) (s : State) :
    deliver w s = exec i s := by
  simp [deliver, h]

/-- A word with a reserved operation code is illegal (R80 (1)). -/
theorem deliver_of_decode_error {w : Word} {e : DecodeError} (h : decode w = .error e) (s : State) :
    deliver w s = .next (takeIllegalWord s) := by
  simp [deliver, h]

theorem deliver_completes (w : Word) (s : State) : ∃ t, deliver w s = .next t := by
  cases h : decode w with
  | ok i => rw [deliver_of_decode_ok h]; exact exec_completes i s
  | error e => exact ⟨_, deliver_of_decode_error h s⟩

/-- With no word left in the queue the block waits (R220). -/
theorem step_of_nextEvent_none {s : State} (h : nextEvent s.inputs = none) :
    step s = .next (waitForEvent s) := by
  simp [step, h]

/-- The next word of the queue is delivered, and taken off it (R61). -/
theorem step_of_nextEvent_some {s : State} {w : Word} {rest : List (List Word)}
    (h : nextEvent s.inputs = some (w, rest)) : step s = deliver w { s with inputs := rest } := by
  simp [step, h]

theorem step_completes (s : State) : ∃ t, step s = .next t := by
  rcases h : nextEvent s.inputs with _ | ⟨w, rest⟩
  · exact ⟨_, step_of_nextEvent_none h⟩
  · rw [step_of_nextEvent_some h]
    exact deliver_completes w _

/-- Settles O40: per instruction, then per delivered word, then per step. -/
theorem noEventStopsTheMachine : Obligations.NoEventStopsTheMachine :=
  ⟨exec_completes, step_completes⟩

/-! ## R6: the derived constants -/

/-- `MAX_DP` by bandwidth class (R6). -/
theorem maxDp_eq (P : Params) :
    maxDp P .full = P.ua ∧ maxDp P .half = P.ua / 2 ∧ maxDp P .quarter = P.ua / 4 :=
  ⟨rfl, rfl, rfl⟩

/-- The values R6 gives for P0. -/
theorem derived_p0 :
    ratio Params.p0 = 8 ∧ atanA Params.p0 = 75 ∧ atanB Params.p0 = 27 ∧
    uaHalf Params.p0 = 300 ∧ uaQuarter Params.p0 = 150 := by
  decide

/-- Settles O41: the quotients are the definitions of Machine/Derived.lean, and P0's values are computed from them. -/
theorem derivedConstants : Obligations.DerivedConstants :=
  ⟨fun P => ⟨rfl, rfl, rfl, rfl, rfl, maxDp_eq P⟩, derived_p0⟩

/-! ## R121, R127: the default tables meet the constraints of R5 -/

/-- Entry `a` of the linear table (R121). -/
theorem linearLut_get (lo hi : Nat) (a : Fin 256) : (linearLut lo hi).get a = linearLevel lo hi a := by
  rw [Vector.get_eq_getElem]
  simp [linearLut]

/-- A linear level between two bytes is a byte, so its store is exact (R121). -/
theorem linearLevel_toNat {lo hi a : Nat} (hlh : lo ≤ hi) (hhi : hi ≤ 255) (ha : a ≤ 255) :
    (linearLevel lo hi a).toNat = lo + a * (hi - lo) / 255 := by
  have hq : a * (hi - lo) / 255 ≤ hi - lo :=
    Nat.div_le_of_le_mul (Nat.mul_le_mul_right _ ha)
  rw [linearLevel, BitVec.toNat_ofNat, Nat.mod_eq_of_lt (by omega)]

theorem linearLut_get_first (lo hi : Nat) : (linearLut lo hi).get 0 = BitVec.ofNat 8 lo := by
  simp [linearLut_get, linearLevel]

theorem linearLut_get_last {lo hi : Nat} (hlh : lo ≤ hi) : (linearLut lo hi).get 255 = BitVec.ofNat 8 hi := by
  have hval : ((255 : Fin 256) : Nat) = 255 := rfl
  rw [linearLut_get, linearLevel, hval, Nat.mul_div_cancel_left _ (by decide), Nat.add_sub_cancel' hlh]

theorem linearLut_monotone {lo hi : Nat} (hlh : lo ≤ hi) (hhi : hi ≤ 255) (a : Fin 255) :
    ((linearLut lo hi).get a.castSucc).toNat ≤ ((linearLut lo hi).get a.succ).toNat := by
  have hstep : a * (hi - lo) / 255 ≤ (a + 1) * (hi - lo) / 255 :=
    Nat.div_le_div_right (Nat.mul_le_mul_right _ (Nat.le_succ a))
  rw [linearLut_get, linearLut_get, Fin.val_castSucc, Fin.val_succ,
    linearLevel_toNat hlh hhi (by omega), linearLevel_toNat hlh hhi (by omega)]
  omega

/-- The default weights fall strictly (R127). -/
theorem raisedCosine_decreasing (k : Fin 30) :
    (raisedCosine.get k.succ).toNat < (raisedCosine.get k.castSucc).toNat := by
  revert k; decide

/-- `P0` with the linear table between two levels: the shape of both records of R121. -/
def p0WithLevels (lo hi : Nat) : Params :=
  { Params.p0 with minLevel := BitVec.ofNat 8 lo, maxLevel := BitVec.ofNat 8 hi, lut := linearLut lo hi }

theorem p0_eq_p0WithLevels : Params.p0 = p0WithLevels 0 255 := rfl

theorem p1_eq_p0WithLevels : Params.p1 = p0WithLevels 20 200 := rfl

/-- The numeric parameters of `P0` lie in the ranges of the table of R5. -/
theorem p0_ranges :
    (22 ≤ Params.p0.ua ∧ Params.p0.ua ≤ 32767) ∧ Params.p0.ua ≤ Params.p0.fs ∧
    (2 ≤ Params.p0.hangMax ∧ Params.p0.hangMax ≤ 65535) ∧ (1 ≤ Params.p0.hpfK ∧ Params.p0.hpfK ≤ 255) ∧
    Params.p0.hC0 + Params.p0.hC2 + Params.p0.hC4 + Params.p0.hC6 ≤ 255 ∧ 1 ≤ Params.p0.hDiv ∧
    9 ≤ Params.p0.atanDen ∧ Params.p0.amBase ≤ 255 ∧ Params.p0.oscAlpha ≤ 127 ∧ Params.p0.stShift ≤ 7 ∧
    (1 ≤ Params.p0.synthNregs ∧ Params.p0.synthNregs ≤ 255) := by
  decide

/-- Any two bytes in order make an admissible record of `P0`. -/
theorem p0WithLevels_admissible {lo hi : Nat} (hlh : lo ≤ hi) (hhi : hi ≤ 255) :
    (p0WithLevels lo hi).Admissible := by
  obtain ⟨hua, hfs, hhang, hhpf, htaps, hdiv, hatan, ham, halpha, hshift, hnregs⟩ := p0_ranges
  have hlevels : (BitVec.ofNat 8 lo).toNat ≤ (BitVec.ofNat 8 hi).toNat := by
    simp only [BitVec.toNat_ofNat]; omega
  exact {
    ua_range := hua
    fs_range := hfs
    hangMax_range := hhang
    hpfK_range := hhpf
    taps_sum := htaps
    hDiv_pos := hdiv
    atanDen_min := hatan
    ramp_top := rfl
    ramp_decreasing := raisedCosine_decreasing
    levels_order := hlevels
    lut_low := linearLut_get_first lo hi
    lut_high := linearLut_get_last hlh
    lut_monotone := linearLut_monotone hlh hhi
    amBase_max := ham
    oscAlpha_max := halpha
    stShift_max := hshift
    synthNregs_range := hnregs }

/-- Settles O54: both records are `P0` with a linear table between two bytes in order. -/
theorem defaultRecordsAreAdmissible : Obligations.DefaultRecordsAreAdmissible := by
  rw [Obligations.DefaultRecordsAreAdmissible, p0_eq_p0WithLevels, p1_eq_p0WithLevels]
  exact ⟨p0WithLevels_admissible (by decide) (by decide), p0WithLevels_admissible (by decide) (by decide)⟩

end Sys2Proof.Machine

namespace Sys2Proof.Machine

/-! ## R49: a step keeps the invariants -/

/-- Of the configuration the invariants name only the mode; of the diagnostic registers, the queue and the trace they name
nothing. -/
theorem Inv.of_cfg_bookkeeping {s : State} (h : Inv s) {c : Cfg} (hc : c.mode.toNat ≤ 4) (e : Bool) (n : BitVec 16)
    (queue : List (List Word)) (trace : List OutEvent) :
    Inv { s with cfg := c, err := e, busErr := n, inputs := queue, out := trace } :=
  { h with
    idle_quiet := fun hidle => { h.idle_quiet hidle with }
    mode_legal := hc }

theorem Inv.of_bookkeeping {s : State} (h : Inv s) (e : Bool) (n : BitVec 16) (queue : List (List Word))
    (trace : List OutEvent) : Inv { s with err := e, busErr := n, inputs := queue, out := trace } :=
  h.of_cfg_bookkeeping h.mode_legal e n queue trace

theorem beginEvent_keeps_inv {s : State} (h : Inv s) : Inv (beginEvent s) :=
  h.of_bookkeeping s.err s.busErr s.inputs []

/-! ### Legal amplitudes (R49, 6) -/

theorem legalLevel_zero (P : Params) : LegalLevel P 0 := .inl rfl

theorem legalLevel_lutRead (P : Params) (a : Fin 256) : LegalLevel P (lutRead P a) := .inr (.inl ⟨a, rfl⟩)

theorem legalLevel_rampRead (P : Params) (k : Fin 31) : LegalLevel P (rampLevel P (rampRead P k).toNat) :=
  .inr (.inr ⟨k, rfl⟩)

/-- Every weight that `AMP_CW` reads is a table entry: the full weight of the open ramp is `RAMP[0]` (R5, R128). -/
theorem rampWeight_eq_rampRead {P : Params} (hP : P.Admissible) (idx : BitVec 5) :
    ∃ k, rampWeight P idx = (rampRead P k).toNat := by
  unfold rampWeight
  split
  · exact ⟨0, by rw [rampRead, hP.ramp_top]; rfl⟩
  · exact ⟨_, rfl⟩

theorem legalLevel_rampWeight {P : Params} (hP : P.Admissible) (idx : BitVec 5) :
    LegalLevel P (rampLevel P (rampWeight P idx)) := by
  obtain ⟨k, hk⟩ := rampWeight_eq_rampRead hP idx
  rw [hk]
  exact legalLevel_rampRead P k

/-! ### The delay line (R49, 7) -/

/-- The oldest entry leaves the line, the new one is its last (R102, R58). -/
theorem shiftLine_toList (hp : BitVec 18) (d : DelayLine) : (shiftLine hp d).toList = d.toList.tail ++ [hp] := rfl

theorem shiftLine_legal {hp : BitVec 18} {d : DelayLine} (hhp : LegalEntry hp)
    (hd : ∀ e ∈ d.toList, LegalEntry e) : ∀ e ∈ (shiftLine hp d).toList, LegalEntry e := by
  intro e he
  rw [shiftLine_toList, List.mem_append, List.mem_singleton] at he
  obtain hold | rfl := he
  · exact hd e (List.mem_of_mem_tail hold)
  · exact hhp

/-- The difference of two signed 16-bit values is a legal entry, whatever the values (R101, R49). -/
theorem legalEntry_sub (x dc : BitVec 16) : LegalEntry (store 18 (x.toInt - dc.toInt)) := by
  have hx : -2 ^ 15 ≤ x.toInt ∧ x.toInt < 2 ^ 15 := ⟨x.le_toInt, x.toInt_lt⟩
  have hdc : -2 ^ 15 ≤ dc.toInt ∧ dc.toInt < 2 ^ 15 := ⟨dc.le_toInt, dc.toInt_lt⟩
  have hfits : fitsSigned 18 (x.toInt - dc.toInt) = true := by
    simp only [fitsSigned, decide_eq_true_eq]; omega
  rw [LegalEntry, store_toInt_of_fits (by decide) hfits]
  omega

/-- The line after an SSB tick: shifted once, by the sample less the average just written (R101, R102). -/
theorem ssbTick_v (x : Int) (s : State) :
    (ssbTick x s).v = shiftLine (store 18 (x - (ssbTick x s).hpfDc.toInt)) s.v := by
  simp [ssbTick]

/-! ### The gate counter (R49, 2) -/

theorem gateNext_le {hangMax : Nat} (trig : Bool) {cnt : BitVec 16} (h : cnt.toNat ≤ hangMax) :
    (gateNext hangMax trig cnt).toNat ≤ hangMax := by
  have hofNat (n : Nat) : (BitVec.ofNat 16 n).toNat ≤ n := Nat.mod_le n (2 ^ 16)
  cases trig with
  | true =>
    rw [gateNext]
    split
    · exact hofNat hangMax
    · exact (hofNat (hangMax - 1)).trans (Nat.sub_le hangMax 1)
  | false =>
    rw [gateNext]
    split
    · exact h
    · bv_omega

/-! ### The encoders, mode by mode -/

section
variable {s : State}

theorem ssbTick_gateCnt_le (x : Int) (h : s.gateCnt.toNat ≤ s.params.hangMax) :
    (ssbTick x s).gateCnt.toNat ≤ s.params.hangMax := by
  simpa [ssbTick] using gateNext_le _ h

theorem ssbTick_pendAmp_legal (x : Int) : LegalLevel s.params (ssbTick x s).pendAmp := by
  rw [ssbTick, ssbShape_pendAmp]
  split
  · exact legalLevel_lutRead s.params _
  · exact legalLevel_zero s.params

theorem modeTick_gateCnt_le (m : Option Mode) (x : Int) (h : s.gateCnt.toNat ≤ s.params.hangMax) :
    (modeTick m x s).gateCnt.toNat ≤ s.params.hangMax := by
  match m with
  | some .usb | some .lsb => exact ssbTick_gateCnt_le x h
  | some .am | some .fm | some .cw | none => simpa [modeTick] using h

theorem modeTick_pendAmp_legal (hP : s.params.Admissible) (m : Option Mode) (x : Int) :
    LegalLevel s.params (modeTick m x s).pendAmp := by
  match m with
  | some .usb | some .lsb => exact ssbTick_pendAmp_legal x
  | some .am | some .fm => exact legalLevel_lutRead s.params _
  | some .cw => exact legalLevel_rampWeight hP s.rampIdx
  | none => exact legalLevel_zero s.params

theorem modeTick_line_legal (m : Option Mode) (x : BitVec 16) (h : ∀ e ∈ s.v.toList, LegalEntry e) :
    ∀ e ∈ (modeTick m x.toInt s).v.toList, LegalEntry e := by
  match m with
  | some .usb | some .lsb =>
    rw [modeTick, ssbTick_v]
    exact shiftLine_legal (legalEntry_sub x _) h
  | some .am | some .fm | some .cw | none => simpa [modeTick] using h

end

/-! ### The events -/

section
variable {s t : State}

theorem transmitTick_keeps_inv (hs : Inv s) (hfsm : s.fsm = .transmit) (x : BitVec 16) :
    Inv (transmitTick x.toInt s) := by
  have ⟨_, hv, hgate, hpendAmp, _⟩ := transmitTick_eq_modeTick x.toInt s
  have hparams := transmitTick_params x.toInt s
  exact {
    params_admissible := by rw [hparams]; exact hs.params_admissible
    idle_quiet := fun hidle => by simp [hfsm] at hidle
    gate_bounded := by
      rw [hparams, hgate]
      exact modeTick_gateCnt_le (s := ampCommit (synthXfer s)) _ _ hs.gate_bounded
    regs_follow := by rw [hparams]; exact transmitTick_synthRegs _ s
    mode_legal := by rw [transmitTick_cfg]; exact hs.mode_legal
    amp_out_legal := by rw [hparams, transmitTick_ampOut]; exact hs.pend_amp_legal
    pend_amp_legal := by
      rw [hparams, hpendAmp]
      exact modeTick_pendAmp_legal (s := ampCommit (synthXfer s)) hs.params_admissible _ _
    line_legal := by
      rw [hv]
      exact modeTick_line_legal (s := ampCommit (synthXfer s)) _ x hs.line_legal }

theorem openTransmitGate_keeps_inv (hs : Inv s) : Inv (openTransmitGate s) :=
  { hs with
    idle_quiet := nofun
    gate_bounded := Nat.zero_le _ }

theorem safeOff_keeps_inv (hs : Inv s) : Inv (safeOff s) :=
  { hs with
    idle_quiet := fun _ => ⟨rfl, rfl, rfl, rfl, rfl, rfl, rfl⟩
    gate_bounded := Nat.zero_le _
    regs_follow := rfl
    amp_out_legal := legalLevel_zero s.params
    pend_amp_legal := legalLevel_zero s.params }

theorem zeroLine_legal : ∀ e ∈ DelayLine.zero.toList, LegalEntry e := by
  intro e he
  obtain rfl : e = 0 := List.eq_of_mem_replicate (n := 15) he
  exact Nat.zero_le _

/-- RESET gives the invariants from any state whose record is admissible. -/
theorem resetRegisters_inv (hP : s.params.Admissible) : Inv (resetRegisters s) where
  params_admissible := hP
  idle_quiet _ := ⟨rfl, rfl, rfl, rfl, rfl, rfl, rfl⟩
  gate_bounded := Nat.zero_le _
  regs_follow := rfl
  mode_legal := Nat.zero_le 4
  amp_out_legal := legalLevel_zero s.params
  pend_amp_legal := legalLevel_zero s.params
  line_legal := zeroLine_legal

theorem takeIllegalWord_keeps_inv (hs : Inv s) : Inv (takeIllegalWord s) :=
  hs.of_bookkeeping true s.busErr s.inputs []

/-- The mode codes that stand for a mode are those R80 (2) calls legal. -/
theorem modeOfBits_isSome_iff (m : BitVec 3) : (modeOfBits m).isSome ↔ m.toNat ≤ 4 := by
  revert m; decide

theorem execCfg_keeps_inv (hs : Inv s) {m : BitVec 3} {b : BitVec 2} {d : BitVec 4} {v : BitVec 16}
    (h : execCfg m b d v s = .next t) : Inv t := by
  obtain ⟨bw, _, hmode, heq⟩ | ⟨_, heq⟩ := execCfg_cases m b d v s <;> obtain rfl := Host.Outcome.next.inj (heq ▸ h)
  · exact hs.of_cfg_bookkeeping (c := ⟨m, bw, d, v⟩) ((modeOfBits_isSome_iff m).mp hmode) s.err s.busErr s.inputs []
  · exact takeIllegalWord_keeps_inv hs

theorem execTick_keeps_inv (hs : Inv s) {x : BitVec 16} (h : execTick x s = .next t) : Inv t := by
  cases hfsm : s.fsm with
  | idle =>
    obtain rfl := Host.Outcome.next.inj (execTick_idle hfsm x ▸ h)
    exact beginEvent_keeps_inv hs
  | transmit =>
    obtain rfl := Host.Outcome.next.inj (execTick_transmit hfsm x ▸ h)
    exact transmitTick_keeps_inv (beginEvent_keeps_inv hs) hfsm x

theorem execPttOn_keeps_inv (hs : Inv s) (h : execPttOn s = .next t) : Inv t := by
  cases hfsm : s.fsm with
  | idle =>
    obtain rfl := Host.Outcome.next.inj (execPttOn_idle hfsm ▸ h)
    exact openTransmitGate_keeps_inv (beginEvent_keeps_inv hs)
  | transmit =>
    obtain rfl := Host.Outcome.next.inj (execPttOn_transmit hfsm ▸ h)
    exact beginEvent_keeps_inv hs

theorem exec_keeps_inv (hs : Inv s) {i : Instr} (h : exec i s = .next t) : Inv t := by
  cases i with
  | nop => cases h; exact beginEvent_keeps_inv hs
  | cfg m b d v => exact execCfg_keeps_inv hs h
  | pttOff => cases h; exact safeOff_keeps_inv (beginEvent_keeps_inv hs)
  | pttOn => exact execPttOn_keeps_inv hs h
  | tick x => exact execTick_keeps_inv hs h
  | rd idx => cases h; exact hs.of_bookkeeping ..
  | berr => cases h; exact hs.of_bookkeeping ..
  | reset => cases h; exact resetRegisters_inv hs.params_admissible

theorem deliver_keeps_inv (hs : Inv s) {w : Word} (h : deliver w s = .next t) : Inv t := by
  cases hw : decode w with
  | ok i => exact exec_keeps_inv hs (deliver_of_decode_ok hw s ▸ h)
  | error e =>
    obtain rfl := Host.Outcome.next.inj (deliver_of_decode_error hw s ▸ h)
    exact takeIllegalWord_keeps_inv hs

end

/-- Settles O57: taking a word off the queue touches no register, and what is delivered keeps the invariants. -/
theorem invariantsKeptByEveryStep : Obligations.InvariantsKeptByEveryStep := by
  intro s t hs h
  rcases hnext : nextEvent s.inputs with _ | ⟨w, rest⟩
  · obtain rfl := Host.Outcome.next.inj (step_of_nextEvent_none hnext ▸ h)
    exact hs.of_bookkeeping s.err s.busErr [] []
  · rw [step_of_nextEvent_some hnext] at h
    exact deliver_keeps_inv (hs.of_bookkeeping s.err s.busErr rest s.out) h

/-- Settles O56: the reset state is what RESET leaves of itself. -/
theorem invariantsHoldAtReset : Obligations.InvariantsHoldAtReset :=
  resetRegisters_inv (s := State.reset) defaultRecordsAreAdmissible.1

/-! ## R24, R39: the diagnostic registers -/

/-- The same state with other contents of the diagnostic registers. -/
def withDiagnostics (e : Bool) (n : BitVec 16) (s : State) : State := { s with err := e, busErr := n }

/-- The events that R24 and R39 keep apart from the diagnostic registers: those of the transmit chain, and `NOP`. -/
def IsTransmitEvent (i : Instr) : Prop := i = .nop ∨ i = .pttOn ∨ i = .pttOff ∨ ∃ x, i = .tick x

section
variable (e : Bool) (n : BitVec 16) (s : State)

theorem storeDelta_withDiagnostics (df : Int) :
    storeDelta df (withDiagnostics e n s) = withDiagnostics e n (storeDelta df s) := by
  unfold storeDelta; split <;> rfl

theorem prlStep_withDiagnostics (phase : Int) :
    prlStep phase (withDiagnostics e n s) = withDiagnostics e n (prlStep phase s) := by
  unfold prlStep
  exact storeDelta_withDiagnostics e n
    { s with prevPhase := store 32 (prlPrev s.params s.cfg.bw phase s.prevPhase.toInt) } _

theorem ssbShape_withDiagnostics :
    ssbShape (withDiagnostics e n s) = withDiagnostics e n (ssbShape s) := by
  rw [ssbShape_eq, ssbShape_eq]
  exact prlStep_withDiagnostics e n
    (ampSsb (lineAmplitude s) (gateStep (voxTrigger (lineAmplitude s) s.cfg.voxThr) s)) (linePhase s)

theorem ssbTick_withDiagnostics (x : Int) :
    ssbTick x (withDiagnostics e n s) = withDiagnostics e n (ssbTick x s) :=
  ssbShape_withDiagnostics e n (ssbShift x (ssbHpf x s))

theorem modeTick_withDiagnostics (m : Option Mode) (x : Int) :
    modeTick m x (withDiagnostics e n s) = withDiagnostics e n (modeTick m x s) := by
  match m with
  | some .usb | some .lsb => exact ssbTick_withDiagnostics e n s x
  | some .am | some .fm | some .cw | none => rfl

theorem ceEval_withDiagnostics (ce : Bool) :
    ceEval ce (withDiagnostics e n s) = withDiagnostics e n (ceEval ce s) := by
  rw [ceEval_eq, ceEval_eq]; rfl

theorem sideToneOut_withDiagnostics (m : Option Mode) :
    sideToneOut m (withDiagnostics e n s) = withDiagnostics e n (sideToneOut m s) := by
  unfold sideToneOut; split <;> rfl

/-- The part of a tick in TRANSMIT that follows the encoder: registers, carrier enable, side tone (R174). -/
def finishTick (m : Option Mode) (s : State) : State :=
  sideToneOut m (ceEval (ceNew m s.gateCnt) (synthCalc s))

theorem transmitTick_eq_finishTick (x : Int) :
    let m := modeOfBits s.cfg.mode
    transmitTick x s = finishTick m (modeTick m x (ampCommit (synthXfer s))) := rfl

theorem finishTick_withDiagnostics (m : Option Mode) :
    finishTick m (withDiagnostics e n s) = withDiagnostics e n (finishTick m s) :=
  calc finishTick m (withDiagnostics e n s)
    _ = sideToneOut m (withDiagnostics e n (ceEval (ceNew m s.gateCnt) (synthCalc s))) :=
        congrArg (sideToneOut m) (ceEval_withDiagnostics e n (synthCalc s) _)
    _ = withDiagnostics e n (finishTick m s) := sideToneOut_withDiagnostics e n _ m

/-- No step of a tick reads the diagnostic registers (R174). -/
theorem transmitTick_withDiagnostics (x : Int) :
    transmitTick x (withDiagnostics e n s) = withDiagnostics e n (transmitTick x s) := by
  rw [transmitTick_eq_finishTick, transmitTick_eq_finishTick, ← finishTick_withDiagnostics]
  exact congrArg _ (modeTick_withDiagnostics e n (ampCommit (synthXfer s)) _ x)

theorem execTick_withDiagnostics (x : BitVec 16) :
    ∃ t, execTick x s = .next t ∧ execTick x (withDiagnostics e n s) = .next (withDiagnostics e n t) := by
  cases hfsm : s.fsm with
  | idle => exact ⟨_, execTick_idle hfsm x, execTick_idle (s := withDiagnostics e n s) hfsm x⟩
  | transmit =>
    refine ⟨_, execTick_transmit hfsm x, ?_⟩
    rw [execTick_transmit (s := withDiagnostics e n s) hfsm x, ← transmitTick_withDiagnostics]
    rfl

theorem execPttOn_withDiagnostics :
    ∃ t, execPttOn s = .next t ∧ execPttOn (withDiagnostics e n s) = .next (withDiagnostics e n t) := by
  cases hfsm : s.fsm with
  | idle => exact ⟨_, execPttOn_idle hfsm, execPttOn_idle (s := withDiagnostics e n s) hfsm⟩
  | transmit => exact ⟨_, execPttOn_transmit hfsm, execPttOn_transmit (s := withDiagnostics e n s) hfsm⟩

theorem exec_withDiagnostics {i : Instr} (hi : IsTransmitEvent i) :
    ∃ t, exec i s = .next t ∧ exec i (withDiagnostics e n s) = .next (withDiagnostics e n t) := by
  obtain rfl | rfl | rfl | ⟨x, rfl⟩ := hi
  · exact ⟨_, rfl, rfl⟩
  · exact execPttOn_withDiagnostics e n s
  · exact ⟨_, rfl, rfl⟩
  · exact execTick_withDiagnostics e n s x

end

/-- An event that does the same whatever the diagnostic registers hold leaves them as they are. -/
theorem exec_diagnostics_of_isTransmitEvent {i : Instr} (hi : IsTransmitEvent i) {s t : State} (h : exec i s = .next t) :
    t.err = s.err ∧ t.busErr = s.busErr := by
  obtain ⟨u, hu, hsame⟩ := exec_withDiagnostics s.err s.busErr s hi
  have htu : t = withDiagnostics s.err s.busErr u := Host.Outcome.next.inj (h.symm.trans hsame)
  rw [htu]
  exact ⟨rfl, rfl⟩

/-- The count after a bus error, as a number (R183). -/
theorem countBusError_busErr_toNat (s : State) :
    (countBusError s).busErr.toNat = min 65535 (s.busErr.toNat + 1) := by
  rw [countBusError, BitVec.toNat_ofNat, Nat.mod_eq_of_lt (by omega)]

/-- What no event but RESET undoes: a set error flag, and the bus errors counted (R24, R39). -/
def DiagnosticsGrow (s t : State) : Prop := (s.err = true → t.err = true) ∧ s.busErr.toNat ≤ t.busErr.toNat

theorem diagnosticsGrow_of_eq {s t : State} (h : t.err = s.err ∧ t.busErr = s.busErr) : DiagnosticsGrow s t :=
  ⟨fun herr => h.1.trans herr, (congrArg BitVec.toNat h.2).ge⟩

theorem execCfg_diagnosticsGrow {m : BitVec 3} {b : BitVec 2} {d : BitVec 4} {v : BitVec 16} {s t : State}
    (h : execCfg m b d v s = .next t) : DiagnosticsGrow s t := by
  obtain ⟨bw, _, _, heq⟩ | ⟨_, heq⟩ := execCfg_cases m b d v s <;> obtain rfl := Host.Outcome.next.inj (heq ▸ h)
  · exact diagnosticsGrow_of_eq ⟨rfl, rfl⟩
  · exact ⟨fun _ => rfl, le_rfl⟩

theorem exec_diagnosticsGrow {i : Instr} (hi : i ≠ .reset) {s t : State} (h : exec i s = .next t) :
    DiagnosticsGrow s t := by
  cases i with
  | nop | pttOn | pttOff | tick =>
    exact diagnosticsGrow_of_eq (exec_diagnostics_of_isTransmitEvent (by simp [IsTransmitEvent]) h)
  | cfg m b d v => exact execCfg_diagnosticsGrow h
  | rd idx => cases h; exact diagnosticsGrow_of_eq ⟨rfl, rfl⟩
  | berr =>
    cases h
    refine ⟨id, ?_⟩
    rw [countBusError_busErr_toNat, beginEvent_busErr]
    omega
  | reset => exact absurd rfl hi

/-- Settles O38: event by event, and a tick step by step. -/
theorem diagnosticsStickyAndUnread : Obligations.DiagnosticsStickyAndUnread :=
  ⟨fun _ _ _ h hi => exec_diagnosticsGrow hi h, fun _ s e n hi => exec_withDiagnostics e n s hi⟩

/-! ## R40 to R46: the host registers -/

/-- A register as a number is its two's-complement value reduced to its width (R14). -/
theorem toNat_eq_toInt_emod {w : Nat} (a : BitVec w) : (a.toNat : Int) = a.toInt % 2 ^ w := by
  have hmod : a.toInt % ((2 ^ w : Nat) : Int) = a.toNat % ((2 ^ w : Nat) : Int) := by
    rw [BitVec.toInt_eq_toNat_bmod, Int.bmod_emod]
  rw [← Nat.cast_ofNat (n := 2), ← Nat.cast_pow, hmod]
  exact_mod_cast (Nat.mod_eq_of_lt a.isLt).symm

theorem bit_toNat (b : Bool) : (bit b).toNat = if b then 1 else 0 := by
  cases b <;> rfl

theorem fsmBit_toNat (f : Fsm) : (fsmBit f).toNat = if f = .transmit then 1 else 0 := by
  cases f <;> rfl

theorem hostCfg_toNat (s : State) :
    (hostCfg s).toNat = s.cfg.mode.toNat + 2 ^ 3 * (bwToBits s.cfg.bw).toNat
      + 2 ^ 5 * s.cfg.drive.toNat + 2 ^ 9 * s.cfg.voxThr.toNat := by
  simp only [hostCfg, toNat_append_add, BitVec.toNat_ofNat]
  omega

theorem hostStatus_toNat (s : State) :
    (hostStatus s).toNat = (fsmBit s.fsm).toNat + 2 * (bit s.carEn).toNat + 4 * (bit s.carReg).toNat
      + 8 * (bit s.err).toNat + 2 ^ 8 * s.rampIdx.toNat + 2 ^ 16 * s.gateCnt.toNat := by
  simp only [hostStatus, toNat_append_add, BitVec.toNat_ofNat]
  omega

theorem hostBusErr_toNat (s : State) : (hostBusErr s).toNat = s.busErr.toNat := by
  simp only [hostBusErr, toNat_append_add, BitVec.toNat_ofNat]
  omega

theorem hostAmp_toNat (s : State) :
    (hostAmp s).toNat = s.ampOut.toNat + 2 ^ 8 * s.pendAmp.toNat + 2 ^ 16 * s.stOut.toNat := by
  simp only [hostAmp, toNat_append_add, BitVec.toNat_ofNat]
  omega

theorem hostOsc_toNat (s : State) : (hostOsc s).toNat = s.oscSin.toNat + 2 ^ 8 * s.oscCos.toNat := by
  simp only [hostOsc, toNat_append_add, BitVec.toNat_ofNat]
  omega

/-- Indices 7 to 15 are reserved (R46). -/
theorem hostReg_reserved (s : State) {idx : BitVec 4} (h : 7 ≤ idx.toNat) : hostReg s idx = 0 := by
  obtain ⟨k, hk⟩ := Nat.exists_eq_add_of_le' h
  simp [hostReg, hk]

/-- No host register shows `hpf_dc`, `v` or `synth_regs` (R46). -/
theorem hostReg_of_hidden (s : State) (idx : BitVec 4) (dc : BitVec 16) (v : DelayLine) (regs : List Byte) :
    hostReg { s with hpfDc := dc, v := v, synthRegs := regs } idx = hostReg s idx := rfl

/-- Settles O14: the number of each word from its fields side by side; the reset words are computed. -/
theorem hostRegisterLayouts : Obligations.HostRegisterLayouts := by
  refine ⟨fun s => ⟨?cfg, ?status, hostBusErr_toNat s, hostAmp_toNat s, toNat_eq_toInt_emod s.pendDf,
    toNat_eq_toInt_emod s.prevPhase⟩, by decide⟩
  case cfg =>
    refine (hostCfg_toNat s).trans ?_
    cases s.cfg.bw <;> rfl
  case status =>
    refine (hostStatus_toNat s).trans ?_
    simp only [fsmBit_toNat, bit_toNat, mul_ite, mul_one, mul_zero]

/-- The trace of a tick in TRANSMIT begins with the bulk write of `synth_regs` (R162, R174). -/
theorem transmitTick_out_bulkWrite_first (x : Int) (s : State) :
    ∃ rest, (transmitTick x s).out = s.out ++ .bulkWrite s.synthRegs :: rest := by
  rw [transmitTick_out, List.append_assoc, List.append_assoc]
  exact ⟨_, rfl⟩

/-- Settles O15: the next tick shows `synth_regs` because the trace of a tick in TRANSMIT begins with the bulk write. -/
theorem hostOscAndHiddenRegisters : Obligations.HostOscAndHiddenRegisters := by
  refine ⟨fun s => ?osc, by decide, fun s _ h => hostReg_reserved s h, hostReg_of_hidden, fun s x hfsm => ?shown⟩
  case osc =>
    have hlayout := hostOsc_toNat s
    have hsin := toNat_eq_toInt_emod s.oscSin
    have hcos := toNat_eq_toInt_emod s.oscCos
    show ((hostOsc s).toNat : Int) = _
    omega
  case shown =>
    obtain ⟨rest, hrest⟩ := transmitTick_out_bulkWrite_first x.toInt (beginEvent s)
    exact ⟨_, rest, execTick_transmit hfsm x, hrest⟩

/-! ## R48, R170: RESET -/

theorem exec_reset (s : State) : exec .reset s = .next (resetRegisters (beginEvent s)) := rfl

/-- Settles O17: RESET writes the table of R48. -/
theorem resetSetsEveryRegister : Obligations.ResetSetsEveryRegister := exec_reset

/-- What RESET leaves is fixed by the record, the queue and the count of free values, the fields that are no registers. -/
theorem resetRegisters_eq_reset {s : State} (hparams : s.params = Params.p0) (hinputs : s.inputs = [])
    (hfree : s.freeCtr = 0) : resetRegisters (beginEvent s) = State.reset := by
  simp only [resetRegisters, beginEvent, hparams, hinputs, hfree]
  rfl

/-- Settles O18: the three hypotheses fix the fields that RESET does not write. -/
theorem resetStateIsWhatResetLeaves : Obligations.ResetStateIsWhatResetLeaves := by
  intro s hparams hinputs hfree
  rw [exec_reset, resetRegisters_eq_reset hparams hinputs hfree]

end Sys2Proof.Machine

namespace Sys2Proof.Machine

/-! ## R62: words presented together -/

/-- The order of R62 by operation code: RESET, the host's words and the reserved ones (log entry 6), BERR, TICK. -/
theorem rank_eq (w : Word) :
    rank w = if opcode w = 15 then 0 else if opcode w = 5 then 2 else if opcode w = 3 then 3 else 1 := by
  simp only [← BitVec.toNat_inj, BitVec.reduceToNat]
  rw [rank]
  split
  next h => simp [h]
  next h => simp [h]
  next h => simp [h]
  next hreset hberr htick => rw [if_neg hreset, if_neg hberr, if_neg htick]

theorem rank_eq_zero_iff (w : Word) : rank w = 0 ↔ opcode w = 15 := by
  rw [rank_eq]
  split_ifs with hreset
  · exact iff_of_true rfl hreset
  all_goals exact iff_of_false (by decide) hreset

/-- RESET discards the words presented with it (R62). -/
theorem takeFromInstant_of_pickFirst {instant others : List Word} {w : Word} (h : pickFirst instant = some (w, others)) :
    takeFromInstant instant = some (w, if opcode w = 15 then [] else others) := by
  simp only [takeFromInstant, h, rank_eq_zero_iff]

/-- An instant with words left stays at the head of the queue. -/
theorem nextEvent_of_takeFromInstant {instant left : List Word} {w : Word}
    (h : takeFromInstant instant = some (w, left)) (later : List (List Word)) :
    nextEvent (instant :: later) = some (w, if left = [] then later else left :: later) := by
  cases left <;> simp [nextEvent, h]

/-- The queue after the word picked from an instant: only RESET, or the last word, ends the instant (R62). -/
theorem nextEvent_of_pickFirst {instant others : List Word} {w : Word} (h : pickFirst instant = some (w, others))
    (later : List (List Word)) :
    nextEvent (instant :: later) = some (w, if opcode w = 15 ∨ others = [] then later else others :: later) := by
  rw [nextEvent_of_takeFromInstant (takeFromInstant_of_pickFirst h)]
  by_cases hreset : opcode w = 15
  · rw [if_pos hreset, if_pos rfl, if_pos (Or.inl hreset)]
  · simp only [if_neg hreset, or_iff_right hreset]

/-- Settles O4: the word picked from the instant is the first of least rank, and the step delivers it. -/
theorem simultaneousEventsInOrder : Obligations.SimultaneousEventsInOrder := by
  refine ⟨rank_eq, fun s ws later hinputs hne => ?_⟩
  obtain ⟨pre, w, post, hws, hpick, hpre, hpost⟩ := pickFirst_split hne
  refine ⟨pre, w, post, hws, hpre, hpost, step_of_nextEvent_some ?_⟩
  rw [hinputs, nextEvent_of_pickFirst hpick]

end Sys2Proof.Machine

namespace Sys2Proof.Machine

/-! ## R70 to R80: event words -/

/-- What the format of `i` (R71 to R78) asks of a word: the operation code, and the operands in their fields. -/
def ReadsAs (w : Word) : Instr → Prop
  | .nop => opcode w = 0x0
  | .cfg mode bw drive voxThr =>
    opcode w = 0x1 ∧ field w 0 3 = mode ∧ field w 3 2 = bw ∧ field w 5 4 = drive ∧ field w 9 16 = voxThr
  | .pttOff => opcode w = 0x2 ∧ field w 0 1 = 0
  | .pttOn => opcode w = 0x2 ∧ field w 0 1 = 1
  | .tick sample => opcode w = 0x3 ∧ field w 0 16 = sample
  | .rd idx => opcode w = 0x4 ∧ field w 0 4 = idx
  | .berr => opcode w = 0x5
  | .reset => opcode w = 0xF

/-! ### The decoder -/

theorem decode_of_readsAs {w : Word} {i : Instr} (h : ReadsAs w i) : decode w = .ok i := by
  cases i with
  | nop | berr | reset =>
    simp only [ReadsAs] at h
    simp [decode, h]
  | cfg mode bw drive voxThr =>
    obtain ⟨hop, rfl, rfl, rfl, rfl⟩ := h
    simp [decode, hop]
  | pttOff | pttOn =>
    obtain ⟨hop, hflag⟩ := h
    simp [decode, hop, hflag]
  | tick | rd =>
    obtain ⟨hop, rfl⟩ := h
    simp [decode, hop]

theorem readsAs_of_decode {w : Word} {i : Instr} (h : decode w = .ok i) : ReadsAs w i := by
  unfold decode at h
  split at h
  next hop => cases h; exact BitVec.eq_of_toNat_eq hop
  next hop => cases h; exact ⟨BitVec.eq_of_toNat_eq hop, rfl, rfl, rfl, rfl⟩
  next hop =>
    split at h
    next hflag => cases h; exact ⟨BitVec.eq_of_toNat_eq hop, hflag⟩
    next hflag => cases h; exact ⟨BitVec.eq_of_toNat_eq hop, (BitVec.eq_zero_or_eq_one _).resolve_left hflag⟩
  next hop => cases h; exact ⟨BitVec.eq_of_toNat_eq hop, rfl⟩
  next hop => cases h; exact ⟨BitVec.eq_of_toNat_eq hop, rfl⟩
  next hop => cases h; exact BitVec.eq_of_toNat_eq hop
  next hop => cases h; exact BitVec.eq_of_toNat_eq hop
  next => cases h

/-- The decoder reads a word as `i` exactly when the word holds `i`'s operation code and operands (R79: no other bit counts). -/
theorem decode_eq_ok_iff {w : Word} {i : Instr} : decode w = .ok i ↔ ReadsAs w i :=
  ⟨readsAs_of_decode, decode_of_readsAs⟩

/-- The decoder refuses the reserved operation codes and no other (R80 (1)). -/
theorem decode_error_iff (w : Word) :
    (∃ e, decode w = .error e) ↔ 6 ≤ (opcode w).toNat ∧ (opcode w).toNat ≤ 14 := by
  unfold decode
  split
  case h_8 => -- the arm of the reserved operation codes
    simp only [imp_false] at *
    have hop := (opcode w).isLt
    exact iff_of_true ⟨_, rfl⟩ (by omega)
  case h_3 => -- PTT, decided by its flag
    split
    all_goals exact iff_of_false (fun ⟨_, he⟩ => nomatch he) (by omega)
  all_goals exact iff_of_false (fun ⟨_, he⟩ => nomatch he) (by omega)

/-! ### The bits a format reads -/

theorem append_eq_append_iff {m n : Nat} {a c : BitVec m} {b d : BitVec n} :
    a ++ b = c ++ d ↔ a = c ∧ b = d := by
  refine ⟨fun h => ⟨?high, ?low⟩, fun ⟨hac, hbd⟩ => hac ▸ hbd ▸ rfl⟩
  case high => simpa only [BitVec.extractLsb'_append_eq_left] using congrArg (BitVec.extractLsb' n m) h
  case low => simpa only [BitVec.extractLsb'_append_eq_right] using congrArg (BitVec.extractLsb' 0 n) h

theorem ends_eq_ends_iff {m gap n : Nat} {a c : BitVec m} {b d : BitVec n} :
    a ++ 0#gap ++ b = c ++ 0#gap ++ d ↔ a = c ∧ b = d := by
  rw [append_eq_append_iff, append_eq_append_iff, and_iff_left rfl]

/-- A mask over the two ends keeps them and clears what stands between. -/
theorem append_and_ends_mask {m gap n : Nat} (a : BitVec m) (between : BitVec gap) (b : BitVec n) :
    (a ++ between ++ b) &&& (BitVec.allOnes m ++ 0#gap ++ BitVec.allOnes n) = a ++ 0#gap ++ b := by
  rw [BitVec.and_append, BitVec.and_append, BitVec.and_allOnes, BitVec.and_allOnes, BitVec.and_zero]

theorem and_ends_mask {m gap n : Nat} (w : BitVec (m + gap + n)) :
    w &&& (BitVec.allOnes m ++ 0#gap ++ BitVec.allOnes n) =
      w.extractLsb' (n + gap) m ++ 0#gap ++ w.extractLsb' 0 n := by
  have hw : w.extractLsb' (n + gap) m ++ w.extractLsb' n gap ++ w.extractLsb' 0 n = w := by
    rw [BitVec.extractLsb'_append_extractLsb'_eq_extractLsb' rfl, BitVec.extractLsb'_append_extractLsb']
  simpa only [hw] using append_and_ends_mask (w.extractLsb' (n + gap) m) (w.extractLsb' n gap) (w.extractLsb' 0 n)

/-- The four operands of `CFG` stand side by side in the low 25 bits (R73). -/
theorem encode_cfg_eq (mode : BitVec 3) (bw : BitVec 2) (drive : BitVec 4) (voxThr : BitVec 16) :
    encode (.cfg mode bw drive voxThr) = 0x1#4 ++ 0#3 ++ (voxThr ++ drive ++ bw ++ mode) := by
  apply BitVec.eq_of_toNat_eq
  simp only [encode, toNat_append_add, BitVec.toNat_ofNat]
  omega

/-- Neighbouring fields side by side are one field (R14). -/
theorem field_append_field (w : Word) (lo m n : Nat) : field w (lo + n) m ++ field w lo n = field w lo (m + n) :=
  BitVec.extractLsb'_append_extractLsb'_eq_extractLsb' rfl

theorem cfgFields_eq_iff (w : Word) (mode : BitVec 3) (bw : BitVec 2) (drive : BitVec 4) (voxThr : BitVec 16) :
    field w 0 25 = voxThr ++ drive ++ bw ++ mode ↔
      field w 0 3 = mode ∧ field w 3 2 = bw ∧ field w 5 4 = drive ∧ field w 9 16 = voxThr := by
  have hfields : field w 9 16 ++ field w 5 4 ++ field w 3 2 ++ field w 0 3 = field w 0 25 := by
    rw [field_append_field w 5 16 4, field_append_field w 3 20 2, field_append_field w 0 22 3]
  rw [← hfields, append_eq_append_iff, append_eq_append_iff, append_eq_append_iff]
  tauto

theorem and_opcode_mask (w : Word) : w &&& 0xF0000000 = opcode w ++ 0#28 :=
  (and_ends_mask (m := 4) (gap := 28) (n := 0) w).trans (BitVec.append_zero_width _ _)

/-- A word reads as `i` exactly when the bits that `i`'s format reads are those of `i`'s encoding. -/
theorem readsAs_iff_and_formatMask {w : Word} {i : Instr} : ReadsAs w i ↔ w &&& formatMask i = encode i := by
  symm
  cases i with
  | nop | berr | reset => exact (and_opcode_mask w).congr_left.trans (BitVec.append_left_inj _)
  | cfg mode bw drive voxThr =>
    rw [encode_cfg_eq]
    exact (and_ends_mask (m := 4) (gap := 3) (n := 25) w).congr_left.trans
      (ends_eq_ends_iff.trans (and_congr_right' (cfgFields_eq_iff w mode bw drive voxThr)))
  | pttOff | pttOn => exact (and_ends_mask (m := 4) (gap := 27) (n := 1) w).congr_left.trans ends_eq_ends_iff
  | tick => exact (and_ends_mask (m := 4) (gap := 12) (n := 16) w).congr_left.trans ends_eq_ends_iff
  | rd => exact (and_ends_mask (m := 4) (gap := 24) (n := 4) w).congr_left.trans ends_eq_ends_iff

/-- The encoder writes the ignored bits as 0 (R79). -/
theorem encode_and_formatMask (i : Instr) : encode i &&& formatMask i = encode i := by
  cases i with
  | nop | pttOff | pttOn | berr | reset => rfl
  | cfg mode bw drive voxThr =>
    rw [encode_cfg_eq]
    exact append_and_ends_mask 0x1#4 0#3 (voxThr ++ drive ++ bw ++ mode)
  | tick sample => exact append_and_ends_mask 0x3#4 0#12 sample
  | rd idx => exact append_and_ends_mask 0x4#4 0#24 idx

theorem decode_eq_ok_iff_and_formatMask {w : Word} {i : Instr} :
    decode w = .ok i ↔ w &&& formatMask i = encode i :=
  decode_eq_ok_iff.trans readsAs_iff_and_formatMask

theorem decode_encode (i : Instr) : decode (encode i) = .ok i :=
  decode_eq_ok_iff_and_formatMask.mpr (encode_and_formatMask i)

/-- Settles O5: the encoding is unchanged by the mask of its own format, so it decodes to its instruction. -/
theorem decodeOfEncode : Obligations.DecodeOfEncode := decode_encode

/-- Settles O6: what a word decodes to is decided by the bits under the mask of the format. -/
theorem encodeOfDecodeUpToIgnoredBits : Obligations.EncodeOfDecodeUpToIgnoredBits := by
  intro w i hdecode
  have hw := decode_eq_ok_iff_and_formatMask.mp hdecode
  exact ⟨hw.symm, fun u hu => decode_eq_ok_iff_and_formatMask.mpr (hu.trans hw)⟩

/-! ### Illegal words -/

theorem cfg_wellFormed_eq_false_iff (m : BitVec 3) (b : BitVec 2) (d : BitVec 4) (v : BitVec 16) :
    (Instr.cfg m b d v).wellFormed = false ↔ 5 ≤ m.toNat ∨ b.toNat = 3 := by
  simp only [Instr.wellFormed, modeLegal, bwLegal, Bool.and_eq_false_iff, decide_eq_false_iff_not]
  omega

/-- Only a `CFG` with a reserved mode or bandwidth is ill-formed (R80 (2), (3)). -/
theorem exists_cfg_of_illFormed {i : Instr} (h : i.wellFormed = false) :
    ∃ m b d v, i = .cfg m b d v ∧ (5 ≤ m.toNat ∨ b.toNat = 3) := by
  cases i with
  | cfg m b d v => exact ⟨m, b, d, v, rfl, (cfg_wellFormed_eq_false_iff m b d v).mp h⟩
  | nop | pttOff | pttOn | tick | rd | berr | reset => cases h

theorem decode_illFormed_iff (w : Word) :
    (∃ i, decode w = .ok i ∧ i.wellFormed = false) ↔
      opcode w = 1 ∧ (5 ≤ (w.extractLsb' 0 3).toNat ∨ (w.extractLsb' 3 2).toNat = 3) := by
  constructor
  case mp =>
    rintro ⟨i, hdecode, hill⟩
    obtain ⟨m, b, d, v, rfl, hreserved⟩ := exists_cfg_of_illFormed hill
    obtain ⟨hop, rfl, rfl, -, -⟩ := decode_eq_ok_iff.mp hdecode
    exact ⟨hop, hreserved⟩
  case mpr =>
    rintro ⟨hop, hreserved⟩
    exact ⟨.cfg (field w 0 3) (field w 3 2) (field w 5 4) (field w 9 16),
      decode_eq_ok_iff.mpr ⟨hop, rfl, rfl, rfl, rfl⟩, (cfg_wellFormed_eq_false_iff ..).mpr hreserved⟩

/-- Settles O7: the decoder refuses the reserved operation codes, and only `CFG` has reserved operands. -/
theorem illegalWordsAreExactlyThese : Obligations.IllegalWordsAreExactlyThese :=
  fun w => ⟨decode_error_iff w, decode_illFormed_iff w⟩

/-- The bandwidth codes that stand for a class are those R80 (3) calls legal. -/
theorem bwOfBits_isSome_iff (b : BitVec 2) : (bwOfBits b).isSome ↔ b.toNat ≠ 3 := by
  revert b; decide

/-- An ill-formed `CFG` is discarded whole (R80, R181). -/
theorem exec_of_illFormed {i : Instr} (h : i.wellFormed = false) (s : State) :
    exec i s = .next (takeIllegalWord s) := by
  obtain ⟨m, b, d, v, rfl, hreserved⟩ := exists_cfg_of_illFormed h
  obtain ⟨bw, hbw, hmode, -⟩ | ⟨-, heq⟩ := execCfg_cases m b d v s
  · have hm := (modeOfBits_isSome_iff m).mp hmode
    have hb := (bwOfBits_isSome_iff b).mp (by rw [hbw]; rfl)
    omega
  · exact heq

/-- An illegal word of either kind is taken as one (R80). -/
theorem deliver_of_illegal {w : Word}
    (h : (∃ e, decode w = .error e) ∨ ∃ i, decode w = .ok i ∧ i.wellFormed = false) (s : State) :
    deliver w s = .next (takeIllegalWord s) := by
  obtain ⟨e, he⟩ | ⟨i, hi, hill⟩ := h
  · exact deliver_of_decode_error he s
  · rw [deliver_of_decode_ok hi, exec_of_illFormed hill]

/-! ### The assembler -/

theorem modeToBits_legal (m : Mode) : modeLegal (modeToBits m) = true := by cases m <;> rfl

theorem bwToBits_legal (b : Bandwidth) : bwLegal (bwToBits b) = true := by cases b <;> rfl

theorem asmPtt_wellFormed (on : Bool) : (asmPtt on).wellFormed = true := by cases on <;> rfl

/-- Every line but `.word` stands for encodings of legal instructions (R84, R85). -/
theorem assemble_eq_encode {line : AsmLine} {w : Word} (hline : ∀ u, line ≠ .word u) (hw : w ∈ assemble line) :
    ∃ i : Instr, w = encode i ∧ i.wellFormed = true := by
  cases line with
  | blank => exact absurd hw List.not_mem_nil
  | reset | nop | tick | rd | berr | safe => exact ⟨_, List.mem_singleton.mp hw, rfl⟩
  | cfg mode bw drive vox =>
    exact ⟨_, List.mem_singleton.mp hw, Bool.and_eq_true_iff.mpr ⟨modeToBits_legal mode, bwToBits_legal bw⟩⟩
  | ptt on | key on => exact ⟨_, List.mem_singleton.mp hw, asmPtt_wellFormed on⟩
  | word u => exact absurd rfl (hline u)
  | tickTimes x n | berrTimes n => exact ⟨_, List.eq_of_mem_replicate hw, rfl⟩
  | ticks xs =>
    obtain ⟨x, -, rfl⟩ := List.mem_map.mp hw
    exact ⟨_, rfl, rfl⟩

/-- Settles O10: line by line, and the encodings decode. -/
theorem assemblerWritesLegalWords : Obligations.AssemblerWritesLegalWords := by
  intro line w hline hw
  obtain ⟨i, rfl, hlegal⟩ := assemble_eq_encode hline hw
  exact ⟨i, rfl, decode_encode i, hlegal⟩

/-! ### The step -/

theorem step_of_alone {s : State} {w : Word} {later : List (List Word)} (h : s.inputs = [w] :: later) :
    step s = deliver w { s with inputs := later } :=
  step_of_nextEvent_some (by rw [h, nextEvent_singleton])

/-- Settles O1: the next word is delivered, and its delivery is the meaning of what it decodes to. -/
theorem stepRunsDecodedEvent : Obligations.StepRunsDecodedEvent := by
  refine ⟨fun s w rest i hnext hdecode => ?_, fun s w later i hinputs hdecode => ?_⟩
  · rw [step_of_nextEvent_some hnext, deliver_of_decode_ok hdecode]
  · rw [step_of_alone hinputs, deliver_of_decode_ok hdecode]

theorem withFetchWord_inputs (s : State) (w : Word) : (s.withFetchWord 32 w.toNat).inputs = [w] :: s.inputs := by
  rw [State.withFetchWord, Nat.mod_eq_of_lt w.isLt, BitVec.ofNat_toNat, BitVec.setWidth_eq]

/-- Settles O2: the placed word stands alone at the head of the queue and decodes to its instruction. -/
theorem placedWordIsRunNext : Obligations.PlacedWordIsRunNext := by
  intro s i
  rw [step_of_alone (withFetchWord_inputs s (encode i)), deliver_of_decode_ok (decode_encode i)]
  rfl

/-- Settles O8: such a word is illegal by O7, and it is taken with the queue already shortened. -/
theorem illegalWordOnlySetsErr : Obligations.IllegalWordOnlySetsErr := by
  intro s w later hinputs hbits
  have hillegal := hbits.imp (decode_error_iff w).mpr (decode_illFormed_iff w).mpr
  rw [step_of_alone hinputs, deliver_of_illegal hillegal]
  rfl

/-- Settles O9: nine closed words, each run through the decoder. -/
theorem writtenOutWordsDecode : Obligations.WrittenOutWordsDecode := by
  unfold Obligations.WrittenOutWordsDecode
  decide

end Sys2Proof.Machine

namespace Sys2Proof.Machine

/-! ## R94: the oscillator never affects the transmitted signal -/

/-- What of a state is not the oscillator's: its registers and the side tone's blanked, the side-tone writes taken out of the
trace. -/
def transmitView (s : State) : State :=
  { s with oscSin := 0, oscCos := 0, stOut := 0, out := s.out.filter OutEvent.notSideTone }

theorem out_filter_eq_of_transmitView_eq {t u : State} (h : transmitView t = transmitView u) :
    t.out.filter OutEvent.notSideTone = u.out.filter OutEvent.notSideTone := congrArg State.out h

/-- States with one view differ only in what the view blanks, and in the trace. -/
theorem eq_of_transmitView_eq {t u : State} (h : transmitView t = transmitView u) :
    u = { t with oscSin := u.oscSin, oscCos := u.oscCos, stOut := u.stOut, out := u.out } :=
  calc u
    _ = { transmitView u with oscSin := u.oscSin, oscCos := u.oscCos, stOut := u.stOut, out := u.out } := rfl
    _ = { transmitView t with oscSin := u.oscSin, oscCos := u.oscCos, stOut := u.stOut, out := u.out } := by rw [h]

/-! ### What the oscillator writes is out of the view -/

section
variable (s : State)

@[simp] theorem transmitView_oscStep : transmitView (oscStep s) = transmitView s := rfl

@[simp] theorem transmitView_sideToneWrite (l : Byte) : transmitView (sideToneWrite l s) = transmitView s := by
  simp [transmitView, sideToneWrite, emit, OutEvent.notSideTone]

@[simp] theorem transmitView_sideToneOut (m : Option Mode) : transmitView (sideToneOut m s) = transmitView s := by
  unfold sideToneOut
  split
  · exact transmitView_sideToneWrite s _
  · rfl

/-! ### Every other operation does in the view what it does in the state -/

@[simp] theorem transmitView_fsm : (transmitView s).fsm = s.fsm := rfl
@[simp] theorem transmitView_cfg : (transmitView s).cfg = s.cfg := rfl
@[simp] theorem transmitView_beginEvent : transmitView (beginEvent s) = beginEvent (transmitView s) := rfl
@[simp] theorem transmitView_countBusError : transmitView (countBusError s) = countBusError (transmitView s) := rfl
@[simp] theorem transmitView_takeIllegalWord : transmitView (takeIllegalWord s) = takeIllegalWord (transmitView s) := rfl

theorem transmitView_emit {e : OutEvent} (he : e.notSideTone = true) :
    transmitView (emit e s) = emit e (transmitView s) := by
  simp [transmitView, emit, he]

@[simp] theorem transmitView_synthXfer : transmitView (synthXfer s) = synthXfer (transmitView s) :=
  transmitView_emit s rfl

@[simp] theorem transmitView_ampWrite (l : Byte) : transmitView (ampWrite l s) = ampWrite l (transmitView s) :=
  congrArg (fun t : State => { t with ampOut := l }) (transmitView_emit s rfl)

@[simp] theorem transmitView_ampCommit : transmitView (ampCommit s) = ampCommit (transmitView s) :=
  transmitView_ampWrite s s.pendAmp

@[simp] theorem transmitView_carrierEnableWrite (b : Bool) :
    transmitView (carrierEnableWrite b s) = carrierEnableWrite b (transmitView s) :=
  congrArg (fun t : State => { t with carReg := b }) (transmitView_emit s rfl)

@[simp] theorem transmitView_ceEval (ce : Bool) : transmitView (ceEval ce s) = ceEval ce (transmitView s) := by
  have hwrite : transmitView (if ce = s.carEn then s else carrierEnableWrite ce s) =
      if ce = s.carEn then transmitView s else carrierEnableWrite ce (transmitView s) := by
    rw [apply_ite transmitView, transmitView_carrierEnableWrite]
  exact congrArg (fun t : State => { t with carEn := ce }) hwrite

@[simp] theorem transmitView_storeDelta (df : Int) : transmitView (storeDelta df s) = storeDelta df (transmitView s) := by
  unfold storeDelta
  split <;> rfl

/-- Of the SSB encoder only the limiter's store branches on the state; the rest writes registers (R175, R176). -/
@[simp] theorem transmitView_ssbTick (x : Int) : transmitView (ssbTick x s) = ssbTick x (transmitView s) :=
  transmitView_storeDelta _ _

@[simp] theorem transmitView_openTransmitGate : transmitView (openTransmitGate s) = openTransmitGate (transmitView s) :=
  congrArg (fun t : State => { t with carEn := !isSsb s.cfg.mode })
    (transmitView_carrierEnableWrite (rearm { s with fsm := .transmit }) true)

@[simp] theorem transmitView_safeOff : transmitView (safeOff s) = safeOff (transmitView s) :=
  congrArg (fun t : State => { t with carEn := false }) <|
    (transmitView_carrierEnableWrite _ false).trans (congrArg (carrierEnableWrite false) (transmitView_ampWrite _ 0))

/-- RESET re-initialises the oscillator from the record, whatever it held (R96, R170). -/
theorem transmitView_resetRegisters :
    transmitView (resetRegisters (beginEvent s)) = transmitView (resetRegisters (beginEvent (transmitView s))) := rfl

end

/-! ### States with one view go to states with one view -/

section
variable {s u : State} (h : transmitView s = transmitView u)
include h

theorem fsm_eq_of_transmitView_eq : s.fsm = u.fsm := by
  rw [← transmitView_fsm s, h, transmitView_fsm]

theorem cfg_eq_of_transmitView_eq : s.cfg = u.cfg := by
  rw [← transmitView_cfg s, h, transmitView_cfg]

/-- No encoder reads the oscillator but to step it, in CW, which the view does not show (R113, R179). -/
theorem modeTick_transmitView_congr (m : Option Mode) (x : Int) :
    transmitView (modeTick m x s) = transmitView (modeTick m x u) := by
  match m with
  | some .usb | some .lsb => simp only [modeTick, transmitView_ssbTick, h]
  | some .am => exact congrArg (amTick x) h
  | some .fm => exact congrArg (fmTick x) h
  | some .cw =>
    simp only [modeTick, cwTick, transmitView_oscStep]
    exact congrArg (fun t => setPendDf 0 (ampCw t)) h
  | none => exact congrArg otherTick h

theorem finishTick_transmitView_congr (m : Option Mode) :
    transmitView (finishTick m s) = transmitView (finishTick m u) := by
  simp only [finishTick, transmitView_sideToneOut, transmitView_ceEval]
  exact congrArg (fun t : State => ceEval (ceNew m t.gateCnt) (synthCalc t)) h

theorem transmitTick_transmitView_congr (x : Int) :
    transmitView (transmitTick x s) = transmitView (transmitTick x u) := by
  have hcommit : transmitView (ampCommit (synthXfer s)) = transmitView (ampCommit (synthXfer u)) := by
    simp only [transmitView_ampCommit, transmitView_synthXfer, h]
  rw [transmitTick_eq_finishTick, transmitTick_eq_finishTick, cfg_eq_of_transmitView_eq h]
  exact finishTick_transmitView_congr (modeTick_transmitView_congr hcommit _ x) _

theorem execTick_transmitView_congr (x : BitVec 16) :
    ∃ t v, execTick x s = .next t ∧ execTick x u = .next v ∧ transmitView t = transmitView v := by
  have hbegin : transmitView (beginEvent s) = transmitView (beginEvent u) := by simp [h]
  cases hfsm : u.fsm with
  | idle =>
    exact ⟨_, _, execTick_idle (fsm_eq_of_transmitView_eq h ▸ hfsm) x, execTick_idle hfsm x, hbegin⟩
  | transmit =>
    exact ⟨_, _, execTick_transmit (fsm_eq_of_transmitView_eq h ▸ hfsm) x, execTick_transmit hfsm x,
      transmitTick_transmitView_congr hbegin x.toInt⟩

theorem execPttOn_transmitView_congr :
    ∃ t v, execPttOn s = .next t ∧ execPttOn u = .next v ∧ transmitView t = transmitView v := by
  cases hfsm : u.fsm with
  | idle =>
    exact ⟨_, _, execPttOn_idle (fsm_eq_of_transmitView_eq h ▸ hfsm), execPttOn_idle hfsm, by simp [h]⟩
  | transmit =>
    exact ⟨_, _, execPttOn_transmit (fsm_eq_of_transmitView_eq h ▸ hfsm), execPttOn_transmit hfsm, by simp [h]⟩

theorem execCfg_transmitView_congr (m : BitVec 3) (b : BitVec 2) (d : BitVec 4) (v : BitVec 16) :
    ∃ t w, execCfg m b d v s = .next t ∧ execCfg m b d v u = .next w ∧ transmitView t = transmitView w := by
  unfold execCfg
  split
  · next bw _ _ =>
    exact ⟨_, _, rfl, rfl, congrArg (fun t : State => { beginEvent t with cfg := ⟨m, bw, d, v⟩ }) h⟩
  · exact ⟨_, _, rfl, rfl, by simp [h]⟩

theorem exec_transmitView_congr {i : Instr} (hi : ∀ idx, i ≠ .rd idx) :
    ∃ t v, exec i s = .next t ∧ exec i u = .next v ∧ transmitView t = transmitView v := by
  cases i with
  | nop | pttOff | berr => exact ⟨_, _, rfl, rfl, by simp [h]⟩
  | cfg m b d v => exact execCfg_transmitView_congr h m b d v
  | pttOn => exact execPttOn_transmitView_congr h
  | tick x => exact execTick_transmitView_congr h x
  | rd idx => exact absurd rfl (hi idx)
  | reset => exact ⟨_, _, rfl, rfl, by rw [transmitView_resetRegisters, h, ← transmitView_resetRegisters]⟩

end

/-- Settles O39: every instruction but a read by the host takes states with one view to states with one view; a read writes no
register. -/
theorem oscillatorIsIsolated : Obligations.OscillatorIsIsolated := by
  intro i s a b l
  by_cases hi : ∀ idx, i ≠ .rd idx
  · have hview : transmitView s = transmitView { s with oscSin := a, oscCos := b, stOut := l } := rfl
    obtain ⟨t, u, ht, hu, htu⟩ := exec_transmitView_congr hview hi
    exact ⟨t, u, ht, hu, eq_of_transmitView_eq htu, fun _ => (out_filter_eq_of_transmitView_eq htu).symm⟩
  · obtain ⟨idx, rfl⟩ := not_forall_not.mp hi
    exact ⟨_, _, rfl, rfl, rfl, fun hne => absurd rfl (hne idx)⟩

/-! ## R95: the oscillator's orbit with P0 -/

/-- The two accumulators of the oscillator, sine first (R25). -/
def accumulators (s : State) : BitVec 8 × BitVec 8 := (s.oscSin, s.oscCos)

/-- `OSC_STEP` (R91) as a map on the accumulators alone. -/
def accumulatorsNext (P : Params) (p : BitVec 8 × BitVec 8) : BitVec 8 × BitVec 8 :=
  let sinNew := oscSinNext P p.1.toInt p.2.toInt
  (store 8 sinNew, store 8 (oscCosNext P sinNew p.2.toInt))

theorem accumulators_oscStep (s : State) :
    accumulators (oscStep s) = accumulatorsNext s.params (accumulators s) := rfl

theorem accumulators_iterate_oscStep (n : Nat) (s : State) :
    accumulators (oscStep^[n] s) = (accumulatorsNext s.params)^[n] (accumulators s) := by
  induction n generalizing s with
  | zero => rfl
  | succ n ih => rw [Function.iterate_succ_apply, Function.iterate_succ_apply, ih, oscStep_params, accumulators_oscStep]

/-- What R95 claims of every pair of the orbit: both magnitudes are bounded, and the pair is not the silent one. -/
def soundsWithinBound (p : BitVec 8 × BitVec 8) : Bool :=
  decide (|p.1.toInt| ≤ 123 ∧ |p.2.toInt| ≤ 123 ∧ p ≠ (0, 0))

theorem p0Orbit_isPeriodicPt : Function.IsPeriodicPt (accumulatorsNext Params.p0) 166 (0, 112) := by
  show (accumulatorsNext Params.p0)^[166] (0, 112) = (0, 112)
  decide +kernel

theorem p0Orbit_firstPeriod_sounds :
    (List.iterate (accumulatorsNext Params.p0) (0, 112) 166).all soundsWithinBound = true := by
  decide +kernel

theorem p0Orbit_sounds (n : Nat) : soundsWithinBound ((accumulatorsNext Params.p0)^[n] (0, 112)) = true := by
  rw [← p0Orbit_isPeriodicPt.iterate_mod_apply n]
  exact List.all_eq_true.mp p0Orbit_firstPeriod_sounds _
    (List.mem_iterate.mpr ⟨n % 166, Nat.mod_lt n (by decide), rfl⟩)

/-- Settles O49: the orbit of the accumulators closes after 166 steps, and its first period is checked pair by pair. -/
theorem oscillatorOrbitWithP0 : Obligations.OscillatorOrbitWithP0 := by
  intro s n hparams hsin hcos
  have horbit (k : Nat) : accumulators (oscStep^[k] s) = (accumulatorsNext Params.p0)^[k] (0, 112) := by
    rw [accumulators_iterate_oscStep, hparams, accumulators, hsin, hcos]
  have hperiod : accumulators (oscStep^[n + 166] s) = accumulators (oscStep^[n] s) := by
    rw [horbit, horbit, Function.iterate_add_apply, p0Orbit_isPeriodicPt]
  have hsounds := p0Orbit_sounds n
  rw [← horbit] at hsounds
  obtain ⟨hsinBound, hcosBound, hne⟩ := of_decide_eq_true hsounds
  exact ⟨congrArg Prod.fst hperiod, congrArg Prod.snd hperiod, hsinBound, hcosBound,
    fun ⟨hs, hc⟩ => hne (Prod.ext hs hc)⟩

end Sys2Proof.Machine

namespace Sys2Proof.Machine

/-! ## R101 to R104: the filters of an SSB tick -/

/-- The range of a sample and of the slow average (R26, R75). -/
theorem word16_toInt_mem (x : BitVec 16) : -2 ^ 15 ≤ x.toInt ∧ x.toInt < 2 ^ 15 := ⟨x.le_toInt, x.toInt_lt⟩

/-! ### The slow average (R101) -/

/-- The slow average of two signed 16-bit values lies between their common bounds, so its store is exact. -/
theorem hpfAverage_fits (P : Params) (x dc : BitVec 16) : fitsSigned 16 (hpfAverage P x.toInt dc.toInt) = true := by
  have hx := word16_toInt_mem x
  have hdc := word16_toInt_mem dc
  have hlow : (P.hpfK : Int) * -32768 ≤ P.hpfK * dc.toInt := Int.mul_le_mul_of_nonneg_left (by omega) (by omega)
  have hhigh : (P.hpfK : Int) * dc.toInt ≤ P.hpfK * 32767 := Int.mul_le_mul_of_nonneg_left (by omega) (by omega)
  have hmem : -32768 ≤ hpfAverage P x.toInt dc.toInt ∧ hpfAverage P x.toInt dc.toInt ≤ 32767 :=
    tdiv_mem_of_mem (by decide) (by decide) (by push_cast; omega) (by push_cast; omega)
  simp only [fitsSigned, decide_eq_true_eq]
  omega

/-- Truncating `K * n` by `K + 1` loses at least one unit of `n`. -/
theorem mul_div_succ_le_pred (K n : Nat) : K * n / (K + 1) ≤ n - 1 := by
  rcases Nat.eq_zero_or_pos n with rfl | hn
  · simp
  · have hlt : K * n / (K + 1) < n := by
      rw [Nat.div_lt_iff_lt_mul (Nat.succ_pos K)]
      linarith
    omega

theorem hpfAverage_zero_natAbs (P : Params) (dc : Int) :
    (hpfAverage P 0 dc).natAbs = P.hpfK * dc.natAbs / (P.hpfK + 1) := by
  rw [hpfAverage, natAbs_tdiv, zero_add, Int.natAbs_mul, Int.natAbs_natCast]

/-- Settles O50: the weight `K / (K + 1)` is below 1 and the quotient is truncated toward zero. -/
theorem slowAverageDecaysToZero : Obligations.SlowAverageDecaysToZero := by
  intro P dc
  constructor
  · rw [hpfAverage_zero_natAbs]
    exact mul_div_succ_le_pred _ _
  · simp [hpfAverage, tdiv]

/-! ### The Hilbert pair (R103) -/

/-- Settles O29: R9's `tdiv` is the library's truncating division. -/
theorem hilbertPair : Obligations.HilbertPair :=
  fun P d => ⟨rfl, congrArg (· + (d.v6.toInt - d.v8.toInt)) (tdiv_eq_int_tdiv (hilbertSum P d) P.hDiv)⟩

theorem tdiv_neg (a : Int) (b : Nat) : tdiv (-a) b = -tdiv a b := by
  rw [tdiv_eq_int_tdiv, tdiv_eq_int_tdiv, Int.neg_tdiv]

/-- Settles O30: the centre tap, the weighted sum and the direct tap are odd in the entries, and so is truncation. -/
theorem hilbertIsOddSymmetric : Obligations.HilbertIsOddSymmetric := by
  intro P d e h
  simp only [DelayLine.toList, List.map_cons, List.map_nil, List.cons.injEq, and_true] at h
  obtain ⟨h0, -, h2, -, h4, -, h6, h7, h8, -, h10, -, h12, -, h14⟩ := h
  have hsum : hilbertSum P e = -hilbertSum P d := by
    rw [hilbertSum, hilbertSum, h0, h2, h4, h6, h8, h10, h12, h14]; ring
  constructor
  · rw [inPhase, inPhase, h7]; ring
  · rw [quadrature, quadrature, hsum, tdiv_neg, h6, h8]; ring

theorem LegalEntry.natAbs_sub_le {a b : BitVec 18} (ha : LegalEntry a) (hb : LegalEntry b) :
    (a.toInt - b.toInt).natAbs ≤ 131070 := by
  rw [LegalEntry] at ha hb; omega

section
variable {d : DelayLine} (h : ∀ e ∈ d.toList, LegalEntry e)
include h

theorem inPhase_natAbs_le : (inPhase d).natAbs ≤ 131070 := by
  have h7 : LegalEntry d.v7 := h _ (by simp [DelayLine.toList])
  rw [LegalEntry] at h7
  rw [inPhase]
  omega

/-- The two entries of the direct tap. -/
theorem directTap_natAbs_le : (d.v6.toInt - d.v8.toInt).natAbs ≤ 131070 :=
  (h d.v6 (by simp [DelayLine.toList])).natAbs_sub_le (h d.v8 (by simp [DelayLine.toList]))

theorem hilbertSum_natAbs_le (P : Params) :
    (hilbertSum P d).natAbs ≤ (P.hC0 + P.hC2 + P.hC4 + P.hC6) * 131070 := by
  simp only [DelayLine.toList, List.forall_mem_cons] at h
  obtain ⟨h0, -, h2, -, h4, -, h6, -, h8, -, h10, -, h12, -, h14, -⟩ := h
  have tap_le (c : Nat) {a b : BitVec 18} (ha : LegalEntry a) (hb : LegalEntry b) :
      ((c : Int) * (a.toInt - b.toInt)).natAbs ≤ c * 131070 := by
    rw [Int.natAbs_mul, Int.natAbs_natCast]
    exact Nat.mul_le_mul_left c (ha.natAbs_sub_le hb)
  have b0 := tap_le P.hC0 h0 h14
  have b2 := tap_le P.hC2 h2 h12
  have b4 := tap_le P.hC4 h4 h10
  have b6 := tap_le P.hC6 h6 h8
  rw [hilbertSum]
  omega

/-- R103: the bound of `q` for any taps and divisor. -/
theorem quadrature_natAbs_le (P : Params) :
    (quadrature P d).natAbs ≤ (P.hC0 + P.hC2 + P.hC4 + P.hC6) * 131070 / P.hDiv + 131070 :=
  calc (quadrature P d).natAbs
    _ ≤ (hilbertSum P d).natAbs / P.hDiv + (d.v6.toInt - d.v8.toInt).natAbs := by
        rw [← natAbs_tdiv]; exact Int.natAbs_add_le _ _
    _ ≤ _ := Nat.add_le_add (Nat.div_le_div_right (hilbertSum_natAbs_le h P)) (directTap_natAbs_le h)

end

/-! ### The magnitude estimate (R104) -/

/-- Settles O31: the two branches are mirror images and agree where the magnitudes are equal. -/
theorem magnitudeEstimate : Obligations.MagnitudeEstimate := by
  refine ⟨fun i q => ?_, fun i q => ?_, fun i q => ?_⟩
  · simp only [magn, Int.abs_eq_natAbs]; split <;> split <;> omega
  · unfold magn; split <;> split <;> omega
  · rw [magn, magn, Int.natAbs_neg]

/-- The estimate is one magnitude and a quarter of the other, whichever is the larger. -/
theorem magn_le {i q : Int} {a b : Nat} (hi : i.natAbs ≤ a) (hq : q.natAbs ≤ b) (hab : a ≤ b) :
    magn i q ≤ b + a / 4 := by
  unfold magn; split <;> omega

/-- Settles O32: the tap weights of P0 add up to 47 and its divisor is 64; the bounds of the pair bound the estimate. -/
theorem ssbBoundsWithP0 : Obligations.SsbBoundsWithP0 := by
  intro d h
  have hi := inPhase_natAbs_le h
  have hq : (quadrature Params.p0 d).natAbs ≤ 227324 := quadrature_natAbs_le h Params.p0
  rw [Int.abs_eq_natAbs, Int.abs_eq_natAbs]
  exact ⟨by exact_mod_cast hi, by exact_mod_cast hq, magn_le hi hq (by decide)⟩

/-! ## R106, R107: the phase estimate -/

/-- The second coefficient's correction never exceeds the coefficient. -/
theorem atanOct_correction_le (P : Params) {n d : Nat} (hnd : n ≤ d) : atanB P * n / d ≤ atanB P :=
  Nat.div_le_of_le_mul (by rw [Nat.mul_comm d]; exact Nat.mul_le_mul_left _ hnd)

/-- R106 with its difference taken in the integers. -/
theorem atanOct_eq_int (P : Params) {n d : Nat} (hnd : n ≤ d) :
    (atanOct P n d : Int) = (atanA P + atanB P - ((atanB P * n) / d : Nat)) * n / d := by
  have hle := atanOct_correction_le P hnd
  rw [atanOct, Int.natCast_div, Int.natCast_mul, Nat.cast_sub (by omega), Nat.cast_add]

theorem atanOct_zero (P : Params) (d : Nat) : atanOct P 0 d = 0 := by simp [atanOct]

theorem atanOct_self (P : Params) {d : Nat} (hd : 0 < d) : atanOct P d d = atanA P := by
  rw [atanOct, Nat.mul_div_cancel _ hd, Nat.mul_div_cancel _ hd, Nat.add_sub_cancel]

theorem atanB_le_atanA {P : Params} (hP : P.Admissible) : atanB P ≤ atanA P :=
  Nat.div_le_div_left (by have := hP.atanDen_min; omega) (by decide)

/-- The arithmetic of R106: with `f` the floor of `b * n / d`, the polynomial stays below `(a + 1) * d`. -/
theorem octant_numerator_lt {a b n d f : Nat} (hnd : n ≤ d) (hd : 0 < d) (hba : b ≤ a) (hf : b * n < d * (f + 1)) :
    (a + b - f) * n < (a + 1) * d := by
  rcases Nat.eq_zero_or_pos n with rfl | hn
  · positivity
  rcases le_total (a + b) f with hle | hle
  · rw [Nat.sub_eq_zero_of_le hle, Nat.zero_mul]; positivity
  obtain ⟨k, hk⟩ := Nat.exists_eq_add_of_le hle
  rw [hk, Nat.add_sub_cancel_left]
  obtain ⟨m, rfl⟩ := Nat.exists_eq_add_of_le hnd
  have hsum : (n + m) * k + b * n < (n + m) * (a + b + 1) := by rw [hk]; linarith
  have hscaled : ((n + m) * k + b * n) * n < (n + m) * (a + b + 1) * n := Nat.mul_lt_mul_of_pos_right hsum hn
  have hrest : b * n * m ≤ (a + 1) * (n + m) * m := by gcongr; omega
  apply Nat.lt_of_mul_lt_mul_left (a := n + m)
  linarith

theorem atanOct_le {P : Params} (hP : P.Admissible) {n d : Nat} (hnd : n ≤ d) (hd : 0 < d) :
    atanOct P n d ≤ atanA P := by
  have hfloor : atanB P * n < d * (atanB P * n / d + 1) := Nat.lt_mul_div_succ _ hd
  rw [atanOct, ← Nat.lt_succ_iff, Nat.div_lt_iff_lt_mul hd]
  exact octant_numerator_lt hnd hd (atanB_le_atanA hP) hfloor

/-- Settles O42: the quotients are those of R106, and each part of the range is a lemma above. -/
theorem atanOctantRange : Obligations.AtanOctantRange :=
  fun P _ d hP hnd hd => ⟨atanOct_eq_int P hnd, atanOct_le hP hnd hd, atanOct_zero P d, atanOct_self P hd⟩

/-- R107: the angle in the first quadrant, between 0 and a quarter of the circle. -/
theorem atanQuadrant_mem {P : Params} (hP : P.Admissible) (aq ai : Nat) :
    0 ≤ atanQuadrant P aq ai ∧ atanQuadrant P aq ai ≤ uaQuarter P := by
  have hA : atanA P ≤ uaQuarter P := Nat.div_le_div_left (by decide) (by decide)
  unfold atanQuadrant
  split
  · next h =>
    have := atanOct_le hP h.le (Nat.zero_lt_of_lt h)
    omega
  · split
    · omega
    · have := atanOct_le hP (n := aq) (d := ai) (by omega) (by omega)
      omega

theorem atanQuadrant_zero_left (P : Params) (ai : Nat) : atanQuadrant P 0 ai = 0 := by
  simp [atanQuadrant, atanOct_zero]

theorem atanQuadrant_zero_right (P : Params) {aq : Nat} (h : 0 < aq) : atanQuadrant P aq 0 = uaQuarter P := by
  simp [atanQuadrant, atanOct_zero, h]

/-- R107: the three reflections of the quadrant angle keep it within half a circle either way. -/
theorem arctan3_mem {P : Params} (hP : P.Admissible) (q i : Int) :
    -(uaHalf P : Int) ≤ arctan3 P q i ∧ arctan3 P q i ≤ uaHalf P := by
  have hquarter : uaQuarter P ≤ uaHalf P := Nat.div_le_div_left (by decide) (by decide)
  have hr := atanQuadrant_mem hP q.natAbs i.natAbs
  unfold arctan3
  dsimp only
  split <;> split <;> omega

/-- Settles O43: the range by quadrant; on an axis the quadrant angle is 0 or a quarter of the circle. -/
theorem phaseEstimateRangeAndAxes : Obligations.PhaseEstimateRangeAndAxes := by
  intro P q i hP
  obtain ⟨hlow, hhigh⟩ := arctan3_mem hP q i
  refine ⟨hlow, hhigh, ?_, ?_, ?_, ?_⟩
  · rintro rfl hi
    simp [arctan3, atanQuadrant_zero_left, not_lt.mpr hi]
  · rintro rfl hi
    simp [arctan3, atanQuadrant_zero_left, hi]
  · rintro hq rfl
    simp [arctan3, atanQuadrant_zero_right P (Int.natAbs_pos.mpr hq.ne'), hq.not_gt]
  · rintro hq rfl
    simp [arctan3, atanQuadrant_zero_right P (Int.natAbs_pos.mpr hq.ne), hq]

/-! ## R174 to R178: a tick in TRANSMIT, mode by mode -/

theorem modeOfBits_eq_some_iff (b : BitVec 3) (m : Mode) : modeOfBits b = some m ↔ b = modeToBits m := by
  cases m <;> revert b <;> decide

section
variable {s : State}

/-- An encoder runs between the two commits of a tick and its finish (R174). -/
theorem execTick_of_mode (hfsm : s.fsm = .transmit) {m : Mode} (hmode : s.cfg.mode = modeToBits m) (x : BitVec 16) :
    execTick x s = .next (finishTick (some m) (modeTick (some m) x.toInt (ampCommit (synthXfer (beginEvent s))))) := by
  rw [execTick_transmit hfsm, transmitTick_eq_finishTick, beginEvent_cfg, (modeOfBits_eq_some_iff _ m).mpr hmode]

/-- The finish of a tick that leaves the carrier on and writes no side tone: AM and FM (R150, R161). -/
theorem finishTick_of_carrier_on {m : Option Mode} (hcw : m ≠ some .cw) (hce : ceNew m s.gateCnt = true) :
    finishTick m s = { s with
      synthRegs := regCalc s.params s.pendDf
      carEn := true
      carReg := if s.carEn then s.carReg else true
      out := s.out ++ if s.carEn then [] else [.carrierEnableWrite true] } := by
  rw [finishTick, sideToneOut_of_not_cw hcw, hce, ceEval_eq]
  cases hcar : s.carEn <;> simp [synthCalc, hcar]

/-- A tick of such a mode whose encoder writes the pending slot alone: the whole next state (R174). -/
theorem execTick_of_pending_only (hfsm : s.fsm = .transmit) {m : Mode} (hmode : s.cfg.mode = modeToBits m)
    (hcw : some m ≠ some .cw) (hce : ∀ cnt, ceNew (some m) cnt = true) {x : BitVec 16} {level : Byte}
    {df : BitVec 32} (hencode : ∀ u : State, u.params = s.params → u.cfg = s.cfg →
      modeTick (some m) x.toInt u = { u with pendAmp := level, pendDf := df }) :
    execTick x s = .next { s with
      pendAmp := level, pendDf := df, synthRegs := regCalc s.params df, ampOut := s.pendAmp
      carEn := true, carReg := if s.carEn then s.carReg else true
      out := [.bulkWrite s.synthRegs, .ampWrite s.pendAmp]
        ++ if s.carEn then [] else [.carrierEnableWrite true] } := by
  rw [execTick_of_mode hfsm hmode, hencode (ampCommit (synthXfer (beginEvent s))) rfl rfl,
    finishTick_of_carrier_on hcw (hce _)]
  cases hcar : s.carEn <;> simp [hcar]

end

/-- Settles O24: the AM encoder writes the pending slot alone, and the carrier is on. -/
theorem amTickResult : Obligations.AmTickResult := by
  intro s x hfsm hmode
  refine ⟨clampIndex (x.toInt * 2 ^ s.cfg.drive.toNat + s.params.amBase), clampIndex_val _, ?_⟩
  refine execTick_of_pending_only (m := .am) hfsm hmode (by decide) (fun _ => rfl) fun u hparams hcfg => ?_
  rw [← hparams, ← hcfg]
  rfl

/-- A sample shifted by any drive fits the signed 32-bit register (R112). -/
theorem shl_drive_fits (x : BitVec 16) (drive : BitVec 4) : fitsSigned 32 (shl x.toInt drive.toNat) = true := by
  have hx := word16_toInt_mem x
  have hpow : (2 : Int) ^ drive.toNat ≤ 2 ^ 15 := pow_le_pow_right₀ (by decide) (Nat.le_of_lt_succ drive.isLt)
  have hpos : (0 : Int) < 2 ^ drive.toNat := by positivity
  have hmem : -2 ^ 31 ≤ x.toInt * 2 ^ drive.toNat ∧ x.toInt * 2 ^ drive.toNat < 2 ^ 31 := by
    constructor <;> nlinarith
  exact decide_eq_true hmem

/-- Settles O25: the FM encoder writes the pending slot alone, its delta fits the register, and the carrier is on. -/
theorem fmTickResult : Obligations.FmTickResult := by
  intro s x hfsm hmode
  refine ⟨store 32 (shl x.toInt s.cfg.drive.toNat), store_toInt_of_fits (by decide) (shl_drive_fits x _), ?_⟩
  refine execTick_of_pending_only (m := .fm) hfsm hmode (by decide) (fun _ => rfl) fun u hparams hcfg => ?_
  rw [← hparams, ← hcfg]
  rfl

/-! ### The SSB tick (R101, R102, R175) -/

/-- The registers an SSB tick in TRANSMIT leaves are those of its encoder (R174, R175). -/
theorem transmitTick_of_ssb {s : State} (h : s.cfg.mode = 0 ∨ s.cfg.mode = 1) (x : Int) :
    let u := ssbTick x (ampCommit (synthXfer s))
    (transmitTick x s).hpfDc = u.hpfDc ∧ (transmitTick x s).v = u.v ∧
    (transmitTick x s).gateCnt = u.gateCnt ∧ (transmitTick x s).pendAmp = u.pendAmp := by
  have hmode : modeTick (modeOfBits s.cfg.mode) x (ampCommit (synthXfer s)) = ssbTick x (ampCommit (synthXfer s)) := by
    obtain h | h := h <;> rw [h] <;> rfl
  have ⟨hdc, hv, hgate, hamp, _⟩ := transmitTick_eq_modeTick x s
  rw [hmode] at hdc hv hgate hamp
  exact ⟨hdc, hv, hgate, hamp⟩

theorem ssbTick_hpfDc (x : Int) (s : State) :
    (ssbTick x s).hpfDc = store 16 (hpfAverage s.params x s.hpfDc.toInt) := by
  simp [ssbTick]

/-- The difference of two signed 16-bit values fits a line entry (R101). -/
theorem sub_fits (x dc : BitVec 16) : fitsSigned 18 (x.toInt - dc.toInt) = true := by
  have hx := word16_toInt_mem x
  have hdc := word16_toInt_mem dc
  simp only [fitsSigned, decide_eq_true_eq]
  omega

/-- Settles O28: the average and the new entry fit their registers, and the line moves by one. -/
theorem ssbTickFiltersAndShifts : Obligations.SsbTickFiltersAndShifts := by
  intro s x hfsm hmode
  obtain ⟨hdc, hv, -⟩ := transmitTick_of_ssb (s := beginEvent s) hmode x.toInt
  rw [ssbTick_hpfDc] at hdc
  refine ⟨_, store 18 (x.toInt - (transmitTick x.toInt (beginEvent s)).hpfDc.toInt), execTick_transmit hfsm x,
    ?_, store_toInt_of_fits (by decide) (sub_fits x _), ?_⟩
  · rw [hdc]
    exact (store_toInt_of_fits (by decide) (hpfAverage_fits s.params x s.hpfDc)).trans (tdiv_eq_int_tdiv _ _)
  · rw [hv, ssbTick_v, ssbTick_hpfDc, hdc]
    exact shiftLine_toList _ _

/-- The line an SSB tick leaves is the one it shaped (R109). -/
theorem lineAmplitude_ssbTick (x : Int) (s : State) :
    lineAmplitude (ssbTick x s) = lineAmplitude (ssbShift x (ssbHpf x s)) := by
  simp [lineAmplitude, ssbTick]

section
variable {s : State} (h : s.cfg.mode = 0 ∨ s.cfg.mode = 1) (x : Int)
include h

theorem lineAmplitude_transmitTick_of_ssb :
    lineAmplitude (transmitTick x s) = lineAmplitude (ssbShift x (ssbHpf x (ampCommit (synthXfer s)))) := by
  obtain ⟨-, hv, -⟩ := transmitTick_of_ssb h x
  rw [← lineAmplitude_ssbTick, lineAmplitude, lineAmplitude, hv]
  simp

/-- The gate after an SSB tick, from the line the tick leaves (R105, R146). -/
theorem transmitTick_gateCnt_of_ssb :
    (transmitTick x s).gateCnt =
      gateNext s.params.hangMax (voxTrigger (lineAmplitude (transmitTick x s)) s.cfg.voxThr) s.gateCnt := by
  obtain ⟨-, -, hgate, -⟩ := transmitTick_of_ssb h x
  rw [lineAmplitude_transmitTick_of_ssb h, hgate, ssbTick, ssbShape_gateCnt]
  rfl

/-- The pending amplitude after an SSB tick, from the gate and the line the tick leaves (R122, R124). -/
theorem transmitTick_pendAmp_of_ssb :
    (transmitTick x s).pendAmp =
      if gateOn (transmitTick x s).gateCnt then
        lutRead s.params (ampDrive (lineAmplitude (transmitTick x s)) s.cfg.drive)
      else 0 := by
  obtain ⟨-, -, hgate, hamp⟩ := transmitTick_of_ssb h x
  rw [lineAmplitude_transmitTick_of_ssb h, hgate, hamp, ssbTick, ssbShape_pendAmp]
  rfl

end

/-! ### The gate counter (R146) -/

theorem gateOn_eq_true_iff (cnt : BitVec 16) : gateOn cnt = true ↔ cnt ≠ 0 := by
  rw [gateOn, decide_eq_true_iff]; bv_omega

theorem gateNext_first {hangMax : Nat} (h : hangMax ≤ 65535) : (gateNext hangMax true 0).toNat = hangMax :=
  Nat.mod_eq_of_lt (by omega)

theorem gateNext_continuing {hangMax : Nat} (h : hangMax ≤ 65535) {cnt : BitVec 16} (hcnt : cnt ≠ 0) :
    (gateNext hangMax true cnt).toNat = hangMax - 1 := by
  rw [gateNext, if_neg hcnt, BitVec.toNat_ofNat, Nat.mod_eq_of_lt (by omega)]

theorem gateNext_silent (hangMax : Nat) (cnt : BitVec 16) : (gateNext hangMax false cnt).toNat = cnt.toNat - 1 := by
  rw [gateNext]
  split
  · next h => rw [h]; rfl
  · bv_omega

/-- Settles O33: gate and amplitude of the line the tick leaves, case by case of `GATE_STEP`. -/
theorem ssbTickGateAndAmplitude : Obligations.SsbTickGateAndAmplitude := by
  intro s x hfsm hmode hP
  have hhang := hP.hangMax_range.2
  have hgate := transmitTick_gateCnt_of_ssb (s := beginEvent s) hmode x.toInt
  have hamp := transmitTick_pendAmp_of_ssb (s := beginEvent s) hmode x.toInt
  have hline : lineAmplitude (transmitTick x.toInt (beginEvent s)) =
      magn (inPhase (transmitTick x.toInt (beginEvent s)).v)
        (quadrature s.params (transmitTick x.toInt (beginEvent s)).v) := by
    rw [lineAmplitude, transmitTick_params]; rfl
  refine ⟨_, _, execTick_transmit hfsm x, hline, fun htrig hzero => ?_, fun htrig hne => ?_, fun hquiet => ?_,
    fun hoff => ?_, fun hon a ha => ?_⟩
  · rw [hgate, voxTrigger, beginEvent_cfg, decide_eq_true htrig, beginEvent_gateCnt, hzero]
    exact gateNext_first hhang
  · rw [hgate, voxTrigger, beginEvent_cfg, decide_eq_true htrig]
    exact gateNext_continuing hhang hne
  · rw [hgate, voxTrigger, beginEvent_cfg, decide_eq_false (not_lt.mpr hquiet)]
    exact gateNext_silent _ _
  · rw [hamp, if_neg (by rw [gateOn_eq_true_iff]; exact not_not.mpr hoff)]
  · rw [hamp, if_pos ((gateOn_eq_true_iff _).mpr hon)]
    exact congrArg s.params.lut.get (Fin.ext ha.symm)

/-! ## R20 to R39: which events write which register -/

section
variable {s : State}

/-- Outside USB and LSB a tick leaves the SSB registers and the gate alone (R114). -/
theorem transmitTick_of_not_ssb (h : ¬(s.cfg.mode = 0 ∨ s.cfg.mode = 1)) (x : Int) :
    (transmitTick x s).hpfDc = s.hpfDc ∧ (transmitTick x s).v = s.v ∧ (transmitTick x s).prevPhase = s.prevPhase ∧
    (transmitTick x s).gateCnt = s.gateCnt ∧ (transmitTick x s).freeCtr = s.freeCtr := by
  have ⟨hdc, hv, hgate, _, hprev, _, hfree, _⟩ := transmitTick_eq_modeTick x s
  rw [hdc, hv, hgate, hprev, hfree]
  match hm : modeOfBits s.cfg.mode with
  | some .usb => exact absurd (.inl ((modeOfBits_eq_some_iff _ _).mp hm)) h
  | some .lsb => exact absurd (.inr ((modeOfBits_eq_some_iff _ _).mp hm)) h
  | some .am | some .fm | some .cw | none => simp [modeTick]

/-- Outside CW a tick leaves the ramp, the oscillator and the side tone alone (R94, R114). -/
theorem transmitTick_of_not_cw (h : s.cfg.mode ≠ 4) (x : Int) :
    (transmitTick x s).oscSin = s.oscSin ∧ (transmitTick x s).oscCos = s.oscCos ∧
    (transmitTick x s).stOut = s.stOut ∧ (transmitTick x s).rampIdx = s.rampIdx := by
  have hcw : modeOfBits s.cfg.mode ≠ some .cw := fun hm => h ((modeOfBits_eq_some_iff _ _).mp hm)
  have ⟨_, _, _, _, _, _, _, hramp, hsin, hcos⟩ := transmitTick_eq_modeTick x s
  rw [hsin, hcos, hramp, transmitTick_stOut, if_neg hcw]
  match hm : modeOfBits s.cfg.mode with
  | some .cw => exact absurd hm hcw
  | some .usb | some .lsb | some .am | some .fm | none => simp [modeTick]

end

/-- What an event does to the state, event by event and case by case. -/
inductive Runs (s : State) : Instr → State → Prop
  | nop : Runs s .nop (beginEvent s)
  | cfgLegal (m b d v) {bw : Bandwidth} (hmode : (modeOfBits m).isSome) (hbw : bwOfBits b = some bw) :
      Runs s (.cfg m b d v) { beginEvent s with cfg := ⟨m, bw, d, v⟩ }
  | cfgIllegal (m b d v) (hbad : modeOfBits m = none ∨ bwOfBits b = none) : Runs s (.cfg m b d v) (takeIllegalWord s)
  | pttOff : Runs s .pttOff (safeOff (beginEvent s))
  | pttOnEdge (hfsm : s.fsm = .idle) : Runs s .pttOn (openTransmitGate (beginEvent s))
  | pttOnAgain (hfsm : s.fsm = .transmit) : Runs s .pttOn (beginEvent s)
  | tickIdle (x) (hfsm : s.fsm = .idle) : Runs s (.tick x) (beginEvent s)
  | tickTransmit (x) (hfsm : s.fsm = .transmit) : Runs s (.tick x) (transmitTick x.toInt (beginEvent s))
  | rd (idx) : Runs s (.rd idx) (emit (.rdData (hostReg s idx)) (beginEvent s))
  | berr : Runs s .berr (countBusError (beginEvent s))
  | reset : Runs s .reset (resetRegisters (beginEvent s))

theorem runs_of_exec {i : Instr} {s t : State} (h : exec i s = .next t) : Runs s i t := by
  cases i with
  | nop => cases h; exact .nop
  | cfg m b d v =>
    obtain ⟨bw, hbw, hmode, heq⟩ | ⟨hbad, heq⟩ := execCfg_cases m b d v s
    · cases heq.symm.trans h; exact .cfgLegal m b d v hmode hbw
    · cases heq.symm.trans h; exact .cfgIllegal m b d v hbad
  | pttOff => cases h; exact .pttOff
  | pttOn =>
    cases hfsm : s.fsm with
    | idle => cases (execPttOn_idle hfsm).symm.trans h; exact .pttOnEdge hfsm
    | transmit => cases (execPttOn_transmit hfsm).symm.trans h; exact .pttOnAgain hfsm
  | tick x =>
    cases hfsm : s.fsm with
    | idle => cases (execTick_idle hfsm x).symm.trans h; exact .tickIdle x hfsm
    | transmit => cases (execTick_transmit hfsm x).symm.trans h; exact .tickTransmit x hfsm
  | rd idx => cases h; exact .rd idx
  | berr => cases h; exact .berr
  | reset => cases h; exact .reset

/-- Settles O37: event by event; a tick in TRANSMIT by the two frames above. -/
theorem registerWriters : Obligations.RegisterWriters := by
  intro i s t h
  cases runs_of_exec h with
  | nop | rd | berr | cfgLegal | cfgIllegal | pttOnAgain | tickIdle => simp
  | pttOff => simp [safeOff]
  | reset => simp [resetRegisters]
  | pttOnEdge => simp [openTransmitGate]
  | tickTransmit x hfsm =>
    by_cases hcw : s.cfg.mode = 4
    · have hssb : ¬(s.cfg.mode = 0 ∨ s.cfg.mode = 1) := by rw [hcw]; decide
      obtain ⟨hdc, hv, hprev, hgate, hfree⟩ := transmitTick_of_not_ssb (s := beginEvent s) hssb x.toInt
      simp [hfsm, hcw, hdc, hv, hprev, hgate, hfree]
    · obtain ⟨hsin, hcos, hst, hramp⟩ := transmitTick_of_not_cw (s := beginEvent s) hcw x.toInt
      by_cases hssb : s.cfg.mode = 0 ∨ s.cfg.mode = 1
      · obtain hm | hm := hssb <;> simp [hfsm, hm, hsin, hcos, hst, hramp]
      · obtain ⟨hdc, hv, hprev, hgate, hfree⟩ := transmitTick_of_not_ssb (s := beginEvent s) hssb x.toInt
        simp [hfsm, hdc, hv, hprev, hgate, hfree, hsin, hcos, hst, hramp]

end Sys2Proof.Machine

namespace Sys2Proof.Machine

/-! ## R127 to R129: the CW envelope -/

/-! ### The weights and their levels -/

/-- The scaled level of a byte weight is a byte, so its store is exact (R128). -/
theorem rampLevel_toNat (P : Params) {w : Nat} (hw : w ≤ 255) :
    (rampLevel P w).toNat = w * (P.lut.get 255).toNat / 255 := by
  have hlevel : w * (P.lut.get 255).toNat / 255 ≤ (P.lut.get 255).toNat :=
    Nat.div_le_of_le_mul (Nat.mul_le_mul_right _ hw)
  exact Nat.mod_eq_of_lt (hlevel.trans_lt (P.lut.get 255).isLt)

/-- The full weight gives full scale (R128). -/
theorem rampLevel_full (P : Params) : rampLevel P 255 = P.lut.get 255 :=
  BitVec.eq_of_toNat_eq ((rampLevel_toNat P le_rfl).trans (Nat.mul_div_cancel_left _ (by decide)))

theorem ramp_strictAnti {P : Params} (hP : P.Admissible) : StrictAnti fun k => (P.ramp.get k).toNat :=
  Fin.strictAnti_iff_succ_lt.mpr hP.ramp_decreasing

theorem ramp_le (P : Params) (k : Fin 31) : (P.ramp.get k).toNat ≤ 255 :=
  Nat.le_of_lt_succ (P.ramp.get k).isLt

/-- Settles O48: scaling by full scale keeps the order of the weights, and by 255 it is the identity. -/
theorem cwLevelsRise : Obligations.CwLevelsRise := by
  intro P j k hP hjk
  have hweights : (P.ramp.get k).toNat < (P.ramp.get j).toNat := ramp_strictAnti hP hjk
  rw [rampLevel_toNat P (ramp_le P k), rampLevel_toNat P (ramp_le P j)]
  refine ⟨Nat.div_le_div_right (Nat.mul_le_mul_right _ hweights.le), fun hfull => ?_⟩
  have hscale : (P.lut.get 255).toNat = 255 := by rw [hfull]; rfl
  rw [hscale, Nat.mul_div_cancel _ (by decide), Nat.mul_div_cancel _ (by decide)]
  exact hweights

/-! ### The ramp index -/

theorem rampNext_toNat (idx : BitVec 5) : (rampNext idx).toNat = idx.toNat - 1 := by
  unfold rampNext
  split
  · next h => rw [h]; rfl
  · bv_omega

theorem rampNext_iterate_toNat (n : Nat) (idx : BitVec 5) : (rampNext^[n] idx).toNat = idx.toNat - n := by
  induction n generalizing idx with
  | zero => rfl
  | succ n ih => rw [Function.iterate_succ_apply, ih, rampNext_toNat]; omega

theorem rampWeight_zero (P : Params) : rampWeight P 0 = 255 := rfl

theorem rampWeight_succ (P : Params) {idx : BitVec 5} {k : Fin 31} (h : idx.toNat = k.val + 1) :
    rampWeight P idx = (P.ramp.get k).toNat := by
  have hne : idx ≠ 0 := by bv_omega
  have hk : (⟨idx.toNat - 1, by omega⟩ : Fin 31) = k := Fin.ext (by simp [h])
  rw [rampWeight, if_neg hne, hk, rampRead]

theorem rampWeight_le (P : Params) (idx : BitVec 5) : rampWeight P idx ≤ 255 := by
  unfold rampWeight
  split
  · exact le_rfl
  · exact ramp_le P _

/-- The last weight of the ramp is already that of the open ramp (R127, R128). -/
theorem rampWeight_of_le_one {P : Params} (hP : P.Admissible) {idx : BitVec 5} (h : idx.toNat ≤ 1) :
    rampWeight P idx = 255 := by
  obtain hzero | hone := Nat.le_one_iff_eq_zero_or_eq_one.mp h
  · rw [BitVec.eq_of_toNat_eq (y := 0) hzero, rampWeight_zero]
  · rw [rampWeight_succ P (k := 0) hone, hP.ramp_top]; rfl

/-! ### The CW tick (R113, R128, R179) -/

/-- The side-tone level of a signed byte lies in 0 to 255, so neither the remainder nor the store changes it (R93). -/
theorem sideToneLevel_toNat (P : Params) (sin : BitVec 8) :
    ((sideToneLevel P sin.toInt).toNat : Int) = sin.toInt / 2 ^ P.stShift + 128 := by
  have hlow : -128 ≤ sin.toInt := sin.le_toInt
  have hhigh : sin.toInt < 128 := sin.toInt_lt
  have hpos : (0 : Int) < 2 ^ P.stShift := by positivity
  have hmin : -128 ≤ sin.toInt / 2 ^ P.stShift := by
    rw [Int.le_ediv_iff_mul_le hpos]; nlinarith
  have hmax : sin.toInt / 2 ^ P.stShift < 128 := by
    rw [Int.ediv_lt_iff_lt_mul hpos]; nlinarith
  rw [sideToneLevel, sar_eq_ediv, store, BitVec.toNat_ofInt]
  omega

/-- What the CW encoder writes (R113, R128). -/
theorem cwTick_eq (s : State) :
    cwTick s = { s with
      oscSin := (oscStep s).oscSin, oscCos := (oscStep s).oscCos
      rampIdx := rampNext s.rampIdx
      pendAmp := rampLevel s.params (rampWeight s.params s.rampIdx), pendDf := 0 } := rfl

/-- The finish of a CW tick: the carrier is on, and the side tone is written last (R150, R161, R174). -/
theorem finishTick_of_cw (s : State) :
    finishTick (some .cw) s = { s with
      synthRegs := regCalc s.params s.pendDf
      stOut := sideToneLevel s.params s.oscSin.toInt
      carEn := true
      carReg := if s.carEn then s.carReg else true
      out := s.out ++ (if s.carEn then [] else [.carrierEnableWrite true])
        ++ [.sideToneWrite (sideToneLevel s.params s.oscSin.toInt)] } := by
  rw [finishTick, sideToneOut_of_cw, ceNew, ceEval_eq]
  cases hcar : s.carEn <;> simp [synthCalc, sideToneWrite, emit, hcar]

/-- Settles O26: the encoder's writes, then the finish with the side tone of the new sine. -/
theorem cwTickResult : Obligations.CwTickResult := by
  intro s x hfsm hmode
  refine ⟨(oscStep s).oscSin, (oscStep s).oscCos, rampNext s.rampIdx, rampWeight s.params s.rampIdx,
    rampLevel s.params (rampWeight s.params s.rampIdx), sideToneLevel s.params (oscStep s).oscSin.toInt,
    ?_, ?_, fun hopen => ?_, fun k hk => ?_, ?_, sideToneLevel_toNat s.params _, ?_⟩
  · rw [oscStep_oscSin, oscSinNext, store_wrapN_toInt, tdiv_eq_int_tdiv]; rfl
  · rw [oscStep_oscCos, oscStep_oscSin, oscCosNext, oscSinNext, store_wrapN_toInt, store_wrapN_toInt,
      tdiv_eq_int_tdiv]; rfl
  · rw [hopen]; exact ⟨rfl, rfl⟩
  · exact ⟨rampWeight_succ s.params hk, by rw [rampNext_toNat, hk, Nat.add_sub_cancel]⟩
  · exact rampLevel_toNat s.params (rampWeight_le s.params s.rampIdx)
  · refine (execTick_of_mode (m := .cw) hfsm hmode x).trans ?_
    rw [modeTick, cwTick_eq, finishTick_of_cw]
    cases hcar : s.carEn <;> simp [hcar]

/-! ### The whole rise (R129) -/

theorem execAll_cons_of_next {i : Instr} {s t : State} (h : exec i s = .next t) (is : List Instr) :
    execAll (i :: is) s = execAll is t := by
  rw [execAll, h]

/-- A CW tick seen by the ramp: one step of the index, and the level of the weight read (R128). -/
theorem exec_tick_of_cw {s : State} (hfsm : s.fsm = .transmit) (hmode : s.cfg.mode = 4) (x : BitVec 16) :
    ∃ t, exec (.tick x) s = .next t ∧ t.fsm = .transmit ∧ t.cfg.mode = 4 ∧ t.params = s.params ∧
      t.rampIdx = rampNext s.rampIdx ∧ t.pendAmp = rampLevel s.params (rampWeight s.params s.rampIdx) := by
  obtain ⟨-, -, -, hamp, -, -, -, hramp, -, -⟩ := transmitTick_eq_modeTick x.toInt (beginEvent s)
  rw [beginEvent_cfg, (modeOfBits_eq_some_iff _ .cw).mpr hmode, modeTick] at hamp hramp
  exact ⟨_, execTick_transmit hfsm x, by simp [hfsm], by simp [hmode], by simp, hramp, hamp⟩

/-- A run of CW ticks seen by the ramp: an index step per tick, and the level of the weight that the last tick read. -/
theorem execAll_cw_ticks (xs : List (BitVec 16)) (x : BitVec 16) {s : State} (hfsm : s.fsm = .transmit)
    (hmode : s.cfg.mode = 4) :
    ∃ t, execAll ((x :: xs).map .tick) s = .next t ∧ t.rampIdx = rampNext^[xs.length + 1] s.rampIdx ∧
      t.pendAmp = rampLevel s.params (rampWeight s.params (rampNext^[xs.length] s.rampIdx)) := by
  induction xs generalizing s x with
  | nil =>
    obtain ⟨t, hexec, -, -, -, hramp, hamp⟩ := exec_tick_of_cw hfsm hmode x
    exact ⟨t, execAll_cons_of_next hexec [], hramp, hamp⟩
  | cons y ys ih =>
    obtain ⟨t, hexec, htfsm, htmode, hparams, hramp, -⟩ := exec_tick_of_cw hfsm hmode x
    obtain ⟨u, hrun, huramp, huamp⟩ := ih y htfsm htmode
    rw [hramp] at huramp huamp
    rw [hparams] at huamp
    exact ⟨u, (execAll_cons_of_next hexec _).trans hrun, huramp, huamp⟩

/-- Settles O47: after n ticks the index is n below 31, and the weight read is that of the index one tick before. -/
theorem cwRiseReachesFullScale : Obligations.CwRiseReachesFullScale := by
  intro s xs hfsm hmode harmed hP hne
  obtain ⟨x, ys, rfl⟩ := List.exists_cons_of_ne_nil hne
  obtain ⟨t, hrun, hramp, hamp⟩ := execAll_cw_ticks ys x hfsm hmode
  have hread : (rampNext^[ys.length] s.rampIdx).toNat = 31 - ys.length := by
    rw [rampNext_iterate_toNat, harmed]; rfl
  refine ⟨t, hrun, ?_, fun k hk => ?_, fun hlong => ?_⟩
  · rw [hramp, rampNext_iterate_toNat, harmed, List.length_cons]; rfl
  · rw [List.length_cons] at hk
    rw [hamp, rampWeight_succ s.params (k := k) (by omega), rampLevel_toNat s.params (ramp_le s.params k)]
  · rw [List.length_cons] at hlong
    rw [hamp, rampWeight_of_le_one hP (by omega), rampLevel_full]

end Sys2Proof.Machine

namespace Sys2Proof.Machine

/-! ## R136 to R142: the phase rate limiter -/

/-- A value that fits is not wrapped (R11). -/
theorem wrapN_of_fits {n : Nat} (hn : 0 < n) {v : Int} (h : fitsSigned n v = true) : wrapN n v = v :=
  (store_toInt n v).symm.trans (store_toInt_of_fits hn h)

/-! ### One tick of the limiter -/

/-- R136, R138: the phase advance, and one circle on a tick that adds one. -/
theorem prlNormalised_eq (P : Params) (phase prev : Int) :
    prlNormalised P phase prev = phase - prev + if phase - prev < 0 then (P.ua : Int) else 0 := by
  unfold prlNormalised
  split
  · rfl
  · exact (Int.add_zero _).symm

/-- R139: the clamp. -/
theorem prlDelta_eq_min (P : Params) (bw : Bandwidth) (phase prev : Int) :
    prlDelta P bw phase prev = min (maxDp P bw : Int) (prlNormalised P phase prev) :=
  min_def_lt _ _ |>.symm

theorem prlDelta_le_maxDp (P : Params) (bw : Bandwidth) (phase prev : Int) :
    prlDelta P bw phase prev ≤ maxDp P bw := by
  rw [prlDelta_eq_min]; exact min_le_left _ _

theorem prlDelta_le_prlNormalised (P : Params) (bw : Bandwidth) (phase prev : Int) :
    prlDelta P bw phase prev ≤ prlNormalised P phase prev := by
  rw [prlDelta_eq_min]; exact min_le_right _ _

/-- A delta below the clamp was not clamped. -/
theorem prlDelta_eq_prlNormalised {P : Params} {bw : Bandwidth} {phase prev : Int}
    (h : prlDelta P bw phase prev < maxDp P bw) : prlDelta P bw phase prev = prlNormalised P phase prev := by
  rw [prlDelta_eq_min] at h ⊢
  omega

section
variable {P : Params} {phase prev : Int}

/-- Two phases lie at most one circle apart, so the circle added makes the advance nonnegative (R138). -/
theorem prlNormalised_nonneg (hphase : -(uaHalf P : Int) ≤ phase) (hprev : prev ≤ uaHalf P) :
    0 ≤ prlNormalised P phase prev := by
  have hhalf : 2 * uaHalf P ≤ P.ua := Nat.mul_div_le P.ua 2
  rw [prlNormalised_eq]
  split <;> omega

theorem prlDelta_nonneg (bw : Bandwidth) (hphase : -(uaHalf P : Int) ≤ phase) (hprev : prev ≤ uaHalf P) :
    0 ≤ prlDelta P bw phase prev := by
  rw [prlDelta_eq_min]
  exact le_min (Int.natCast_nonneg _) (prlNormalised_nonneg hphase hprev)

/-- Absent the wrap of R141, the remembered phase is the phase less what the clamp held back (R137, R139). -/
theorem prlPrev_eq_sub_rest (hP : P.Admissible) (bw : Bandwidth) (hphase : phase ≤ uaHalf P)
    (hprev : -2 ^ 31 + 2 * (P.ua : Int) ≤ prev) :
    prlPrev P bw phase prev = phase - (prlNormalised P phase prev - prlDelta P bw phase prev) := by
  have hua := hP.ua_range.2
  have hhalf : uaHalf P ≤ P.ua := Nat.div_le_self P.ua 2
  have hnorm := prlNormalised_eq P phase prev
  unfold prlPrev prlDelta
  split
  · next hclamped =>
    have hfits : fitsSigned 32 (phase - (prlNormalised P phase prev - maxDp P bw)) = true := by
      rw [fitsSigned, decide_eq_true_eq]
      split at hnorm <;> omega
    exact wrapN_of_fits (by decide) hfits
  · rw [sub_self, sub_zero]

/-- R139: away from the wrap the remembered phase moves by the delta, less the circle added. -/
theorem prlPrev_eq_add_delta (hP : P.Admissible) (bw : Bandwidth) (hphase : phase ≤ uaHalf P)
    (hprev : -2 ^ 31 + 2 * (P.ua : Int) ≤ prev) :
    prlPrev P bw phase prev =
      prev + prlDelta P bw phase prev - if phase - prev < 0 then (P.ua : Int) else 0 := by
  rw [prlPrev_eq_sub_rest hP bw hphase hprev, prlNormalised_eq]
  ring

theorem prlPrev_le_phase (hP : P.Admissible) (bw : Bandwidth) (hphase : phase ≤ uaHalf P)
    (hprev : -2 ^ 31 + 2 * (P.ua : Int) ≤ prev) : prlPrev P bw phase prev ≤ phase := by
  rw [prlPrev_eq_sub_rest hP bw hphase hprev]
  exact sub_le_self phase (sub_nonneg.mpr (prlDelta_le_prlNormalised P bw phase prev))

end

/-- Settles O44: the clamp bounds the delta, and what it holds back stays in the remembered phase. -/
theorem limiterEmitsWithinRange : Obligations.LimiterEmitsWithinRange :=
  fun P bw phase prev hP hlow hhigh hnowrap hprev =>
    ⟨prlDelta_nonneg bw hlow hprev, prlDelta_le_maxDp P bw phase prev,
      prlPrev_eq_add_delta hP bw hhigh hnowrap, prlPrev_le_phase hP bw hhigh hnowrap⟩

/-! ### Any number of ticks (R142) -/

/-- Steps that each move by `d`, less a circle where `added` holds, telescope. -/
theorem sum_deltas_of_moves {ua : Int} {f d : Nat → Int} {added : Nat → Prop} [DecidablePred added] {n : Nat}
    (hmove : ∀ k, k < n → f (k + 1) = f k + d k - if added k then ua else 0) :
    ((List.range n).map d).sum =
      f n - f 0 + ua * (((List.range n).filter fun k => decide (added k)).length : Int) := by
  induction n with
  | zero => simp
  | succ n ih =>
    have hlast := hmove n n.lt_succ_self
    rw [List.range_succ, List.map_append, List.sum_append, ih fun k hk => hmove k (hk.trans n.lt_succ_self), hlast]
    by_cases h : added n <;> simp [h] <;> ring

/-- Settles O45: each tick starts from a remembered phase no higher than the phase before it, so the facts about one tick
hold of it, and the moves telescope. -/
theorem limiterConservesPhase : Obligations.LimiterConservesPhase := by
  intro P bws phases f n hP hphases hstart hnowrap hnext
  have hmove (k : Nat) (hk : k < n) := prlPrev_eq_add_delta hP (bws k) (hphases k).2 (hnowrap k hk)
  have hbelow : ∀ k, k < n → f k ≤ uaHalf P
    | 0, _ => hstart
    | k + 1, hk => by
      rw [hnext k]
      exact (prlPrev_le_phase hP (bws k) (hphases k).2 (hnowrap k (Nat.lt_of_succ_lt hk))).trans (hphases k).2
  refine ⟨fun k hk => ⟨prlDelta_nonneg (bws k) (hphases k).1 (hbelow k hk), prlDelta_le_maxDp P _ _ _,
    (hnext k).trans (hmove k hk), prlNormalised P (phases k) (f k) - prlDelta P (bws k) (phases k) (f k),
    sub_nonneg.mpr (prlDelta_le_prlNormalised P _ _ _), ?_, fun hfree => ?_⟩,
    sum_deltas_of_moves fun k hk => (hnext k).trans (hmove k hk)⟩
  · rw [hnext k, prlPrev_eq_sub_rest hP (bws k) (hphases k).2 (hnowrap k hk)]
  · rw [prlDelta_eq_prlNormalised hfree, sub_self]

/-! ### The limiter of an SSB tick (R136 to R141, R175) -/

section
variable {s : State} (h : s.cfg.mode = 0 ∨ s.cfg.mode = 1)
include h

theorem modeTick_of_ssb (x : Int) (u : State) : modeTick (modeOfBits s.cfg.mode) x u = ssbTick x u := by
  obtain h | h := h <;> rw [h] <;> rfl

/-- The phase an SSB tick estimates is that of the line it leaves (R107, R109). -/
theorem linePhase_transmitTick_of_ssb (x : Int) :
    linePhase (transmitTick x s) = linePhase (ssbShift x (ssbHpf x (ampCommit (synthXfer s)))) := by
  obtain ⟨-, hv, -⟩ := transmitTick_of_ssb h x
  simp [linePhase, hv, ssbTick]

/-- The phase remembered after an SSB tick, from the line the tick leaves (R137, R139). -/
theorem transmitTick_prevPhase_of_ssb (x : Int) :
    (transmitTick x s).prevPhase =
      store 32 (prlPrev s.params s.cfg.bw (linePhase (transmitTick x s)) s.prevPhase.toInt) := by
  obtain ⟨-, -, -, -, hprev, -⟩ := transmitTick_eq_modeTick x s
  rw [modeTick_of_ssb h, ssbTick, ssbShape_prevPhase, ← linePhase_transmitTick_of_ssb h] at hprev
  simpa using hprev

/-- The pending delta after an SSB tick, where it fits its register (R140). -/
theorem transmitTick_pendDf_of_ssb (x : Int) {df : Int} (hfits : fitsSigned 32 df = true)
    (hdf : df = prlFrequency s.params s.cfg.mode
      (prlDelta s.params s.cfg.bw (linePhase (transmitTick x s)) s.prevPhase.toInt)) :
    (transmitTick x s).pendDf = store 32 df := by
  obtain ⟨-, -, -, -, -, hpend, -⟩ := transmitTick_eq_modeTick x s
  rw [modeTick_of_ssb h, ssbTick, ssbShape_eq, ← linePhase_transmitTick_of_ssb h, prlStep_pendDf] at hpend
  subst hdf
  simpa [hfits] using hpend

end

/-- A phase estimate fits the signed 32-bit register (R49, R107). -/
theorem linePhase_fits {s : State} (hP : s.params.Admissible) : fitsSigned 32 (linePhase s) = true := by
  have hua := hP.ua_range.2
  have hhalf : uaHalf s.params ≤ s.params.ua := Nat.div_le_self _ 2
  have hmem := arctan3_mem hP (quadrature s.params s.v) (inPhase s.v)
  rw [fitsSigned, decide_eq_true_eq, linePhase]
  omega

/-- The remembered phase reads back as R137 and R139 have it: only a clamped tick can wrap it. -/
theorem store_prlPrev_toInt (P : Params) (bw : Bandwidth) {phase : Int} (hphase : fitsSigned 32 phase = true)
    (prev : Int) : (store 32 (prlPrev P bw phase prev)).toInt = prlPrev P bw phase prev := by
  unfold prlPrev
  split
  · exact store_wrapN_toInt 32 _
  · exact store_toInt_of_fits (by decide) hphase

/-- Settles O35: both stores of the limiter read back exactly, the second where the delta fits. -/
theorem ssbTickLimiter : Obligations.SsbTickLimiter := by
  intro s x hfsm hmode hP
  have hssb : (beginEvent s).cfg.mode = 0 ∨ (beginEvent s).cfg.mode = 1 := hmode
  have hparams : (transmitTick x.toInt (beginEvent s)).params = s.params := transmitTick_params _ _
  have hphase := linePhase_fits (s := transmitTick x.toInt (beginEvent s)) (hparams ▸ hP)
  refine ⟨_, linePhase (transmitTick x.toInt (beginEvent s)), prlDelta s.params s.cfg.bw _ s.prevPhase.toInt, _, _,
    execTick_transmit hfsm x, by rw [linePhase, hparams], rfl, rfl, rfl, ?_, fun hlow hhigh => ?_⟩
  · rw [transmitTick_prevPhase_of_ssb hssb]
    exact store_prlPrev_toInt _ _ hphase _
  · have hfits := decide_eq_true (And.intro hlow hhigh)
    rw [transmitTick_pendDf_of_ssb hssb x.toInt hfits rfl]
    exact store_toInt_of_fits (by decide) hfits

end Sys2Proof.Machine

namespace Sys2Proof.Machine

/-! ## R146, R148: the hang time of the carrier gate -/

/-- A run of ticks without a trigger counts the gate down by its length, and stops at 0 (R146). -/
theorem gateNext_silent_iterate (hangMax n : Nat) (cnt : BitVec 16) :
    ((gateNext hangMax false)^[n] cnt).toNat = cnt.toNat - n := by
  induction n with
  | zero => rfl
  | succ n ih => rw [Function.iterate_succ_apply', gateNext_silent, ih, Nat.sub_sub]

/-- Settles O46: the last trigger loads the counter, and the quiet ticks after it count it down. -/
theorem hangTime : Obligations.HangTime := by
  intro H c n _ hmax
  rw [gateNext_silent_iterate]
  refine ⟨fun hcontinuing => ?_, fun hfirst => ?_⟩
  · rw [gateNext_continuing hmax hcontinuing]
  · rw [hfirst, gateNext_first hmax]

end Sys2Proof.Machine

namespace Sys2Proof.Machine

/-! ## R160: the register computation -/

/-- Settles O55: the bytes are indexed by the first `SYNTH_NREGS` numbers, whatever the free value `Config.regByte` is. -/
theorem regCalcLength : Obligations.RegCalcLength := by
  intro P df
  calc (regCalc P df).length
      = (List.range P.synthNregs).length := List.length_map (Config.regByte P df)
    _ = P.synthNregs := List.length_range

end Sys2Proof.Machine

namespace Sys2Proof.Machine

/-! ## R181 to R184: the host's operations and the bus monitor's -/

/-- Settles O11: `NOP` only begins an event (R17, R184). -/
theorem nopChangesNothing : Obligations.NopChangesNothing := fun _ => rfl

/-- A `CFG` with a legal mode and bandwidth publishes the whole record (R181). -/
theorem exec_cfg_of_legal {m : BitVec 3} {b : BitVec 2} {bw : Bandwidth} (hm : m.toNat ≤ 4) (hb : bwOfBits b = some bw)
    (d : BitVec 4) (v : BitVec 16) (s : State) :
    exec (.cfg m b d v) s = .next { beginEvent s with cfg := ⟨m, bw, d, v⟩ } := by
  obtain ⟨bw', hb', -, heq⟩ | ⟨hbad | hbad, -⟩ := execCfg_cases m b d v s
  · cases hb.symm.trans hb'; exact heq
  · rw [← modeOfBits_isSome_iff, hbad] at hm; cases hm
  · cases hb.symm.trans hbad

/-- The worked word of R181 is a legal `CFG`, and `HOSTREG[0]` shows its payload (R40). -/
theorem cfg_worked_read_back (s : State) :
    ∃ i t, decode 0x1000C871 = .ok i ∧ exec i s = .next t ∧ hostReg t 0 = 0x0000C871 := by
  have hexec : exec (.cfg 1 2 3 100) s = .next { beginEvent s with cfg := ⟨1, .quarter, 3, 100⟩ } :=
    exec_cfg_of_legal (by decide) rfl 3 100 s
  have hpayload : 0#7 ++ 100#16 ++ 3#4 ++ bwToBits .quarter ++ 1#3 = 0x0000C871#32 := by decide
  obtain ⟨-, hdecode, -⟩ := writtenOutWordsDecode
  exact ⟨_, _, hdecode, hexec, hpayload⟩

/-- Settles O12: the two cases of `CFG`, legal and ill-formed. -/
theorem cfgPublishesWholeRecord : Obligations.CfgPublishesWholeRecord := by
  refine ⟨fun m b d v s hm => ?_, fun m b d v s hbad => ?_, cfg_worked_read_back⟩
  · cases b <;> exact exec_cfg_of_legal hm rfl d v s
  · exact exec_of_illFormed ((cfg_wellFormed_eq_false_iff m b d v).mpr hbad) s

/-- Settles O13: `RD` emits and does nothing else; the reserved indices read 0 (R46, R182). -/
theorem rdEmitsHostRegister : Obligations.RdEmitsHostRegister := fun _ s => ⟨rfl, hostReg_reserved s⟩

/-- Settles O16: the count is the saturating one of `countBusError`, whose store is exact (R183). -/
theorem berrCountsAndSaturates : Obligations.BerrCountsAndSaturates :=
  fun s => ⟨_, countBusError_busErr_toNat s, rfl⟩

/-! ## R171 to R173, R189: the transmit gate -/

/-- USB and LSB by their codes (R73, R171). -/
theorem isSsb_eq_decide (mode : BitVec 3) : isSsb mode = decide (mode = 0 ∨ mode = 1) := by
  revert mode; decide

/-- Settles O19: `PTT_ON` on an edge and without one. -/
theorem pttOnOpensTheGateOnce : Obligations.PttOnOpensTheGateOnce := by
  intro s
  refine ⟨fun hfsm => ?_, fun hfsm => execPttOn_transmit hfsm⟩
  have hcarEn : (!isSsb s.cfg.mode) = if s.cfg.mode = 0 ∨ s.cfg.mode = 1 then false else true := by
    rw [isSsb_eq_decide]; split
    · next h => rw [decide_eq_true h]; rfl
    · next h => rw [decide_eq_false h]; rfl
  rw [← hcarEn]
  exact execPttOn_idle hfsm

/-- Settles O20: the safe-off reads nothing of the state it starts from but its record (R172). -/
theorem pttOffIsUnconditionalSafeOff : Obligations.PttOffIsUnconditionalSafeOff := fun _ => rfl

/-- Settles O22: the tick in IDLE only begins an event. -/
theorem tickInIdleDoesNothing : Obligations.TickInIdleDoesNothing := fun _ x hfsm => execTick_idle hfsm x

/-- IDLE and safe: what PTT_OFF leaves and only PTT_ON ends (R189). -/
def Cancelled (s : State) : Prop := s.fsm = .idle ∧ SafeOff s

theorem safeOff_cancelled (s : State) : Cancelled (safeOff s) := ⟨rfl, rfl, rfl, rfl, rfl, rfl⟩

theorem resetRegisters_cancelled (s : State) : Cancelled (resetRegisters s) := ⟨rfl, rfl, rfl, rfl, rfl, rfl⟩

/-- Every event but PTT_ON keeps a cancelled transmitter cancelled: outside TRANSMIT a tick does nothing, and the rest write no
register of the transmit path or are themselves a safe-off. -/
theorem exec_keeps_cancelled {i : Instr} (hi : i ≠ .pttOn) {s t : State} (h : exec i s = .next t) (hs : Cancelled s) :
    Cancelled t := by
  obtain ⟨hidle, hsafe⟩ := hs
  cases runs_of_exec h with
  | nop | cfgLegal | cfgIllegal | tickIdle | rd | berr => exact ⟨hidle, { hsafe with }⟩
  | pttOff => exact safeOff_cancelled _
  | reset => exact resetRegisters_cancelled _
  | pttOnEdge | pttOnAgain => exact absurd rfl hi
  | tickTransmit x hfsm => exact absurd (hidle.symm.trans hfsm) (by decide)

theorem execAll_keeps_cancelled {is : List Instr} (his : ∀ i ∈ is, i ≠ .pttOn) {s : State} (hs : Cancelled s) :
    ∃ t, execAll is s = .next t ∧ Cancelled t := by
  induction is generalizing s with
  | nil => exact ⟨s, rfl, hs⟩
  | cons i is ih =>
    obtain ⟨hi, hrest⟩ := List.forall_mem_cons.mp his
    obtain ⟨u, hu⟩ := exec_completes i s
    obtain ⟨t, hrun, ht⟩ := ih hrest (exec_keeps_cancelled hi hu hs)
    exact ⟨t, (execAll_cons_of_next hu is).trans hrun, ht⟩

/-- Settles O21: PTT_OFF cancels, every later event but PTT_ON keeps it so, and a tick in IDLE does nothing. -/
theorem cancellationHoldsUntilPttOn : Obligations.CancellationHoldsUntilPttOn := by
  intro s is his
  obtain ⟨t, hrun, hidle, hsafe⟩ := execAll_keeps_cancelled his (safeOff_cancelled (beginEvent s))
  exact ⟨t, hrun, hidle, hsafe, fun x => tickInIdleDoesNothing t x hidle⟩

/-! ## R174, R180, R186: the common part of a tick in TRANSMIT -/

/-- `ce_new` (R150, R180) by the mode's code. -/
theorem ceNew_modeOfBits (mode : BitVec 3) (cnt : BitVec 16) :
    ceNew (modeOfBits mode) cnt = if mode = 0 ∨ mode = 1 then decide (0 < cnt.toNat) else decide (mode.toNat ≤ 4) := by
  match hm : modeOfBits mode with
  | some .usb | some .lsb | some .am | some .fm | some .cw =>
    obtain rfl := (modeOfBits_eq_some_iff mode _).mp hm
    rfl
  | none =>
    have hreserved : ¬ mode.toNat ≤ 4 := by rw [← modeOfBits_isSome_iff, hm]; decide
    have hssb : ¬(mode = 0 ∨ mode = 1) := by rintro (rfl | rfl) <;> exact hreserved (by decide)
    rw [if_neg hssb, decide_eq_false hreserved]
    rfl

/-- Settles O23: what of a tick in TRANSMIT no encoder decides. -/
theorem transmitTickTrace : Obligations.TransmitTickTrace := by
  intro s x hfsm
  have hcw : modeOfBits s.cfg.mode = some .cw ↔ s.cfg.mode = 4 := modeOfBits_eq_some_iff _ .cw
  refine ⟨_, execTick_transmit hfsm x, ?_, transmitTick_ampOut _ _, ?_, ?_, transmitTick_carReg _ _, ?_⟩
  · rw [transmitTick_fsm]; exact hfsm
  · exact transmitTick_synthRegs _ _
  · rw [transmitTick_carEn]; exact ceNew_modeOfBits _ _
  · rw [transmitTick_out]
    simp only [beginEvent_cfg, hcw]
    rfl

/-- The finish of a tick that writes no side tone (R150, R161, R174). -/
theorem finishTick_of_not_cw {m : Option Mode} (hcw : m ≠ some .cw) (s : State) :
    finishTick m s = { s with
      synthRegs := regCalc s.params s.pendDf
      carEn := ceNew m s.gateCnt
      carReg := if ceNew m s.gateCnt = s.carEn then s.carReg else ceNew m s.gateCnt
      out := s.out ++ if ceNew m s.gateCnt = s.carEn then [] else [.carrierEnableWrite (ceNew m s.gateCnt)] } := by
  rw [finishTick, sideToneOut_of_not_cw hcw, ceEval_eq]
  rfl

/-- Settles O27: reserved mode bits select the default arm, which clears the pending slot and disables the carrier. -/
theorem unreachableModeDegradesToCarrierOff : Obligations.UnreachableModeDegradesToCarrierOff := by
  intro s x hfsm hmode
  have hnone : modeOfBits s.cfg.mode = none := by
    rw [← Option.not_isSome_iff_eq_none, modeOfBits_isSome_iff]; omega
  have hexec : exec (.tick x) s = .next (finishTick none (otherTick (ampCommit (synthXfer (beginEvent s))))) := by
    refine (execTick_transmit hfsm x).trans ?_
    rw [transmitTick_eq_finishTick, beginEvent_cfg, hnone]
    rfl
  rw [hexec, finishTick_of_not_cw (by decide)]
  cases hcar : s.carEn <;> simp [ceNew, hcar, otherTick, setPendDf, setPendAmp, store]

/-- What a tick in TRANSMIT sends is what the state held before it, and what it holds follows its own delta (R161, R174). -/
theorem exec_tick_sends_pending {s : State} (hfsm : s.fsm = .transmit) (x : BitVec 16) :
    ∃ t rest, exec (.tick x) s = .next t ∧ t.fsm = .transmit ∧ t.synthRegs = regCalc t.params t.pendDf ∧
      t.ampOut = s.pendAmp ∧ t.out = [.bulkWrite s.synthRegs, .ampWrite s.pendAmp] ++ rest := by
  have hout := transmitTick_out x.toInt (beginEvent s)
  rw [List.append_assoc] at hout
  refine ⟨_, _, execTick_transmit hfsm x, ?_, ?_, transmitTick_ampOut _ _, hout⟩
  · rw [transmitTick_fsm]; exact hfsm
  · rw [transmitTick_synthRegs, transmitTick_params]

/-- Settles O53: what the first tick computed is what the second sends; in IDLE the invariants clear the pending slot (R49), and
PTT_ON leaves it alone. -/
theorem pipelineDelaysOneTick : Obligations.PipelineDelaysOneTick := by
  refine ⟨fun s x y hfsm => ?_, fun s x hs hidle => ?_⟩
  · obtain ⟨t, -, ht, htfsm, hregs, -, -⟩ := exec_tick_sends_pending hfsm x
    obtain ⟨u, rest, hu, -, -, hamp, hout⟩ := exec_tick_sends_pending htfsm y
    exact ⟨t, u, rest, ht, hu, hamp, hregs ▸ hout⟩
  · have hquiet := hs.idle_quiet hidle
    obtain ⟨u, rest, hu, -, -, -, hout⟩ :=
      exec_tick_sends_pending (s := openTransmitGate (beginEvent s)) rfl x
    refine ⟨_, u, rest, execPttOn_idle hidle, hu, ?_⟩
    have hregs : (openTransmitGate (beginEvent s)).synthRegs = regCalc s.params 0 :=
      hs.regs_follow.trans (congrArg _ hquiet.pend_df_zero)
    have hamp : (openTransmitGate (beginEvent s)).pendAmp = 0 := hquiet.pend_amp_zero
    rw [hout, hregs, hamp]

end Sys2Proof.Machine

namespace Sys2Proof.Machine

/-! ## R187: the SSB rows of the transmit state table -/

/-- The observable follows the gate: an SSB tick writes the enable register when the gate opens or closes (R150), in the three
cases of the gate before and after. -/
theorem exec_tick_of_ssb_out {s t : State} (hfsm : s.fsm = .transmit) (hmode : s.cfg.mode = 0 ∨ s.cfg.mode = 1)
    (hcar : s.carEn = decide (0 < s.gateCnt.toNat)) {x : BitVec 16} (hexec : exec (.tick x) s = .next t) :
    t.out = [.bulkWrite s.synthRegs, .ampWrite s.pendAmp] ++
      if (0 < t.gateCnt.toNat ↔ 0 < s.gateCnt.toNat) then []
      else [.carrierEnableWrite (decide (0 < t.gateCnt.toNat))] := by
  obtain ⟨t', hexec', -, -, -, hce, -, hout⟩ := transmitTickTrace s x hfsm
  cases hexec.symm.trans hexec'
  have hcw : s.cfg.mode ≠ 4 := by obtain h | h := hmode <;> rw [h] <;> decide
  rw [if_pos hmode] at hce
  rw [hout, hce, hcar, if_neg hcw, List.append_nil]
  simp only [decide_eq_decide]

/-- Settles O34: the gate's next value row by row (R146), and the enable write where the gate opened or closed. -/
theorem ssbGateTable : Obligations.SsbGateTable := by
  intro s x hfsm hmode hP hcar
  obtain ⟨t, ampRaw, hexec, rfl, hfirst, hcontinuing, hquiet, -⟩ := ssbTickGateAndAmplitude s x hfsm hmode hP
  obtain ⟨hhang, -⟩ := hP.hangMax_range
  have hout := exec_tick_of_ssb_out hfsm hmode hcar hexec
  obtain ⟨t', hexec', htfsm, -⟩ := transmitTickTrace s x hfsm
  cases hexec.symm.trans hexec'
  refine ⟨t, hexec, htfsm, fun htrig hoff => ?opens, fun htrig hon => ?staysOn, fun hno hlong => ?countsDown,
    fun hno hlast => ?closes, fun hno hoff => ?staysOff⟩
  case opens =>
    have hgate := hfirst htrig hoff
    refine ⟨hgate, ?_⟩
    rw [hout, hgate, hoff]
    simp [show 0 < s.params.hangMax by omega]
  case staysOn =>
    have hgate := hcontinuing htrig hon
    have hpos : 0 < s.gateCnt.toNat := by bv_omega
    refine ⟨hgate, ?_⟩
    rw [hout, if_pos (by omega), List.append_nil]
  case countsDown =>
    have hgate := hquiet (not_lt.mp hno)
    refine ⟨hgate, ?_⟩
    rw [hout, if_pos (by omega), List.append_nil]
  case closes =>
    have hgate := hquiet (not_lt.mp hno)
    rw [hlast] at hgate
    refine ⟨BitVec.eq_of_toNat_eq hgate, ?_⟩
    rw [hout, hgate, hlast]
    simp
  case staysOff =>
    have hgate := hquiet (not_lt.mp hno)
    rw [hoff] at hgate
    refine ⟨BitVec.eq_of_toNat_eq hgate, ?_⟩
    rw [hout, hgate, hoff]
    simp

/-! ## R176: USB and LSB -/

/-- The SSB encoder up to the store of the delta, which is all that the sideband decides (R140, R176). -/
def ssbBeforeDelta (x : Int) (s : State) : State :=
  let u := ssbShift x (ssbHpf x s)
  { ampSsb (lineAmplitude u) (gateStep (voxTrigger (lineAmplitude u) s.cfg.voxThr) u) with
    prevPhase := store 32 (prlPrev s.params s.cfg.bw (linePhase u) s.prevPhase.toInt) }

/-- The phase delta of an SSB tick, the same in both sidebands (R136 to R139). -/
def ssbPhaseDelta (x : Int) (s : State) : Int :=
  prlDelta s.params s.cfg.bw (linePhase (ssbShift x (ssbHpf x s))) s.prevPhase.toInt

theorem ssbTick_eq_storeDelta (x : Int) (s : State) :
    ssbTick x s = storeDelta (prlFrequency s.params s.cfg.mode (ssbPhaseDelta x s)) (ssbBeforeDelta x s) := rfl

/-- The outputs of the tick before the encoder runs do not show in the delta (R174). -/
theorem ssbPhaseDelta_commit (x : Int) (s : State) :
    ssbPhaseDelta x (ampCommit (synthXfer (beginEvent s))) = ssbPhaseDelta x s := by
  simp [ssbPhaseDelta, linePhase]

theorem maxDp_le_ua (P : Params) (bw : Bandwidth) : maxDp P bw ≤ P.ua := by
  cases bw with
  | full => exact le_rfl
  | half => exact Nat.div_le_self P.ua 2
  | quarter => exact Nat.div_le_self P.ua 4

/-- A delta within its bounds shifts the carrier by at most the sample rate (R6, R140). -/
theorem ssbPhaseDelta_mul_ratio_mem {s : State} (hP : s.params.Admissible)
    (hprev : s.prevPhase.toInt ≤ uaHalf s.params) (x : Int) :
    0 ≤ ssbPhaseDelta x s * ratio s.params ∧ ssbPhaseDelta x s * ratio s.params ≤ s.params.fs := by
  have hphase := arctan3_mem hP (quadrature s.params (ssbShift x (ssbHpf x s)).v) (inPhase (ssbShift x (ssbHpf x s)).v)
  have hlow : 0 ≤ ssbPhaseDelta x s := prlDelta_nonneg s.cfg.bw hphase.1 hprev
  have hhigh : ssbPhaseDelta x s ≤ s.params.ua :=
    (prlDelta_le_maxDp ..).trans (Int.ofNat_le.mpr (maxDp_le_ua s.params s.cfg.bw))
  refine ⟨mul_nonneg hlow (Int.natCast_nonneg _), ?_⟩
  calc ssbPhaseDelta x s * ratio s.params
    _ ≤ s.params.ua * ratio s.params := Int.mul_le_mul_of_nonneg_right hhigh (Int.natCast_nonneg _)
    _ ≤ s.params.fs := by exact_mod_cast Nat.mul_div_le s.params.fs s.params.ua

theorem prlFrequency_usb (P : Params) (dp : Int) : prlFrequency P (modeToBits .usb) dp = dp * ratio P := if_pos rfl

theorem prlFrequency_lsb (P : Params) (dp : Int) : prlFrequency P (modeToBits .lsb) dp = -(dp * ratio P) :=
  if_neg (by decide)

/-- A tick of either sideband whose delta fits: the delta is stored, and the rest is the finish (R140, R174). -/
theorem exec_tick_of_ssb_fits {s : State} (hfsm : s.fsm = .transmit) {m : Mode} (hssb : m = .usb ∨ m = .lsb)
    (hmode : s.cfg.mode = modeToBits m) {x : BitVec 16} {df : Int} (hfits : fitsSigned 32 df = true)
    (hdf : prlFrequency s.params (modeToBits m) (ssbPhaseDelta x.toInt s) = df) :
    exec (.tick x) s =
      .next (finishTick (some m) (setPendDf df (ssbBeforeDelta x.toInt (ampCommit (synthXfer (beginEvent s)))))) := by
  have hencode (u : State) : modeTick (some m) x.toInt u = ssbTick x.toInt u := by
    obtain rfl | rfl := hssb <;> rfl
  have hdelta : prlFrequency s.params s.cfg.mode (ssbPhaseDelta x.toInt s) = df := hmode ▸ hdf
  refine (execTick_of_mode hfsm hmode x).trans ?_
  rw [hencode, ssbTick_eq_storeDelta, ssbPhaseDelta_commit]
  simp only [ampCommit_params, synthXfer_params, beginEvent_params, ampCommit_cfg, synthXfer_cfg, beginEvent_cfg, hdelta]
  rw [storeDelta_of_fits hfits]

/-- A delta between 0 and a sample rate below 2^31 fits its register, and so does its negative (R35, R140). -/
theorem fitsSigned_and_neg_of_le {df : Int} {fs : Nat} (hlow : 0 ≤ df) (hhigh : df ≤ fs) (hfs : fs < 2 ^ 31) :
    fitsSigned 32 df = true ∧ fitsSigned 32 (-df) = true := by
  simp only [fitsSigned, decide_eq_true_eq]
  omega

/-- Settles O36: in both sidebands the encoder is one up to the delta; each delta fits, and LSB negates it (R140). -/
theorem usbAndLsbMirror : Obligations.UsbAndLsbMirror := by
  intro s x c hfsm hP hfs hprev
  obtain ⟨hlow, hhigh⟩ := ssbPhaseDelta_mul_ratio_mem (s := { s with cfg := c }) hP hprev x.toInt
  obtain ⟨hfits, hfitsNeg⟩ := fitsSigned_and_neg_of_le hlow hhigh hfs
  have husb := exec_tick_of_ssb_fits (s := { s with cfg := { c with mode := 0 } }) (m := .usb) hfsm (.inl rfl) rfl hfits
    (prlFrequency_usb ..)
  have hlsb := exec_tick_of_ssb_fits (s := { s with cfg := { c with mode := 1 } }) (m := .lsb) hfsm (.inr rfl) rfl
    hfitsNeg (prlFrequency_lsb ..)
  rw [finishTick_of_not_cw (by decide)] at husb hlsb
  exact ⟨_, _, husb, hlsb, rfl, (store_toInt_of_fits (by decide) hfitsNeg).trans
    (congrArg Neg.neg (store_toInt_of_fits (by decide) hfits).symm)⟩

end Sys2Proof.Machine

namespace Sys2Proof.Machine

/-! ## R188: silence -/

/-! ### The steady state (R144) -/

theorem delayLine_eq_zero_iff (d : DelayLine) : d = DelayLine.zero ↔ ∀ e ∈ d.toList, e = 0 := by
  obtain ⟨⟩ := d
  simp [DelayLine.zero, DelayLine.toList]

theorem quadrature_zero (P : Params) : quadrature P DelayLine.zero = 0 := by
  simp [quadrature, hilbertSum, DelayLine.zero, tdiv]

/-- On the zero line there is no amplitude to trigger the gate, and the phase is 0 (R103, R104, R107). -/
theorem lineAmplitude_of_zero {s : State} (h : s.v = DelayLine.zero) : lineAmplitude s = 0 := by
  rw [lineAmplitude, h, quadrature_zero]; rfl

theorem linePhase_of_zero {s : State} (h : s.v = DelayLine.zero) : linePhase s = 0 := by
  have hi : inPhase DelayLine.zero = 0 := rfl
  rw [linePhase, h, quadrature_zero, hi]
  simp [arctan3, atanQuadrant]

/-- With nothing owed, a phase of 0 gives a delta of 0 and leaves nothing owed (R136 to R139). -/
theorem prlDelta_zero (P : Params) (bw : Bandwidth) : prlDelta P bw 0 0 = 0 := by
  simp [prlDelta_eq_min, prlNormalised]

theorem prlPrev_zero (P : Params) (bw : Bandwidth) : prlPrev P bw 0 0 = 0 := by
  simp [prlPrev, prlNormalised]

theorem prlFrequency_zero (P : Params) (mode : BitVec 3) : prlFrequency P mode 0 = 0 := by
  simp [prlFrequency]

/-- No amplitude exceeds a threshold by being 0 (R105). -/
theorem voxTrigger_zero (voxThr : BitVec 16) : voxTrigger 0 voxThr = false := decide_eq_false (Nat.not_lt_zero _)

section
variable {s : State}

theorem ssbHpf_of_steady (hdc : s.hpfDc = 0) : ssbHpf 0 s = s := by
  have haverage : store 16 (hpfAverage s.params 0 s.hpfDc.toInt) = s.hpfDc := by
    rw [hdc]; simp [hpfAverage, tdiv, store]
  rw [ssbHpf, haverage]

theorem ssbShift_of_steady (hdc : s.hpfDc = 0) (hv : s.v = DelayLine.zero) : ssbShift 0 s = s := by
  have hline : shiftLine (store 18 (0 - s.hpfDc.toInt)) s.v = s.v := by rw [hdc, hv]; rfl
  rw [ssbShift, hline]

theorem ampSsb_of_gate_off (hgate : s.gateCnt = 0) (hamp : s.pendAmp = 0) (ampRaw : Nat) : ampSsb ampRaw s = s := by
  have hlevel : (if gateOn s.gateCnt then lutRead s.params (ampDrive ampRaw s.cfg.drive) else 0) = s.pendAmp := by
    rw [hgate, hamp]; rfl
  rw [ampSsb, hlevel, setPendAmp]

theorem gateStep_of_off (hgate : s.gateCnt = 0) : gateStep false s = s := by
  have hcnt : gateNext s.params.hangMax false s.gateCnt = s.gateCnt := by rw [hgate]; rfl
  rw [gateStep, hcnt]

theorem prlStep_of_steady (hprev : s.prevPhase = 0) (hdf : s.pendDf = 0) : prlStep 0 s = s := by
  have hzero : s.prevPhase.toInt = 0 := by rw [hprev]; rfl
  have hframe {p df : BitVec 32} (hp : s.prevPhase = p) (hd : s.pendDf = df) :
      { s with prevPhase := p, pendDf := df } = s := by subst hp hd; rfl
  rw [prlStep, hzero, prlDelta_zero, prlPrev_zero, prlFrequency_zero, storeDelta_of_fits (by decide)]
  exact hframe hprev hdf

theorem ssbTick_of_steady (hdc : s.hpfDc = 0) (hv : s.v = DelayLine.zero) (hprev : s.prevPhase = 0)
    (hgate : s.gateCnt = 0) (hamp : s.pendAmp = 0) (hdf : s.pendDf = 0) : ssbTick 0 s = s := by
  rw [ssbTick, ssbHpf_of_steady hdc, ssbShift_of_steady hdc hv, ssbShape_eq, lineAmplitude_of_zero hv,
    linePhase_of_zero hv, voxTrigger_zero, gateStep_of_off hgate, ampSsb_of_gate_off hgate hamp,
    prlStep_of_steady hprev hdf]

end

theorem modeOfBits_ne_cw_of_ssb {mode : BitVec 3} (h : mode = 0 ∨ mode = 1) : modeOfBits mode ≠ some .cw := by
  obtain rfl | rfl := h <;> decide

theorem ceNew_of_ssb {mode : BitVec 3} (h : mode = 0 ∨ mode = 1) (cnt : BitVec 16) :
    ceNew (modeOfBits mode) cnt = decide (0 < cnt.toNat) := by
  rw [ceNew_modeOfBits, if_pos h]

/-- Settles O52: the encoder writes back what it reads, and the observable, off, does not change. -/
theorem silentSteadyState : Obligations.SilentSteadyState := by
  intro s hfsm hmode hdc hline hprev hgate hcar hamp hout hdf hregs
  have hv := (delayLine_eq_zero_iff s.v).mpr hline
  have hsteady : ssbTick 0 (ampCommit (synthXfer (beginEvent s))) = ampCommit (synthXfer (beginEvent s)) :=
    ssbTick_of_steady (by simpa) (by simpa) (by simpa) (by simpa) (by simpa) (by simpa)
  have hce : ceNew (modeOfBits s.cfg.mode) s.gateCnt = false := by rw [ceNew_of_ssb hmode, hgate]; rfl
  have hexec : exec (.tick 0) s = .next (transmitTick 0 (beginEvent s)) := execTick_transmit hfsm 0
  rw [hexec, transmitTick_eq_finishTick, beginEvent_cfg, modeTick_of_ssb hmode, hsteady,
    finishTick_of_not_cw (modeOfBits_ne_cw_of_ssb hmode)]
  simp only [ampCommit_gateCnt, synthXfer_gateCnt, beginEvent_gateCnt, hce]
  simp [hcar, hamp, hout, hdf, hregs]

/-! ### Silent ticks -/

/-- The state after a silent tick in TRANSMIT. -/
def silentTick (s : State) : State := transmitTick 0 (beginEvent s)

@[simp] theorem silentTick_fsm (s : State) : (silentTick s).fsm = s.fsm := transmitTick_fsm _ _
@[simp] theorem silentTick_cfg (s : State) : (silentTick s).cfg = s.cfg := transmitTick_cfg _ _
@[simp] theorem silentTick_params (s : State) : (silentTick s).params = s.params := transmitTick_params _ _
@[simp] theorem silentTick_ampOut (s : State) : (silentTick s).ampOut = s.pendAmp := transmitTick_ampOut _ _

theorem exec_silent_tick {s : State} (hfsm : s.fsm = .transmit) : exec (.tick 0) s = .next (silentTick s) :=
  execTick_transmit hfsm 0

theorem execAll_silence {s : State} (hfsm : s.fsm = .transmit) (n : Nat) :
    execAll (List.replicate n (.tick 0)) s = .next (silentTick^[n] s) := by
  induction n generalizing s with
  | zero => rfl
  | succ n ih =>
    rw [List.replicate_succ, execAll_cons_of_next (exec_silent_tick hfsm), ih ((silentTick_fsm s).trans hfsm),
      Function.iterate_succ_apply]

/-- An SSB transmission within the invariants, which is what silence keeps. -/
structure SsbOnAir (s : State) : Prop where
  inv : Inv s
  fsm_transmit : s.fsm = .transmit
  mode_ssb : s.cfg.mode = 0 ∨ s.cfg.mode = 1

theorem SsbOnAir.after_silentTick {s : State} (h : SsbOnAir s) : SsbOnAir (silentTick s) where
  inv := exec_keeps_inv h.inv (exec_silent_tick h.fsm_transmit)
  fsm_transmit := (silentTick_fsm s).trans h.fsm_transmit
  mode_ssb := by rw [silentTick_cfg]; exact h.mode_ssb

theorem SsbOnAir.after_silence {s : State} (h : SsbOnAir s) (n : Nat) : SsbOnAir (silentTick^[n] s) := by
  induction n with
  | zero => exact h
  | succ n ih => rw [Function.iterate_succ_apply']; exact ih.after_silentTick

@[simp] theorem silence_cfg (s : State) (n : Nat) : (silentTick^[n] s).cfg = s.cfg := by
  induction n with
  | zero => rfl
  | succ n ih => rw [Function.iterate_succ_apply', silentTick_cfg, ih]

@[simp] theorem silence_params (s : State) (n : Nat) : (silentTick^[n] s).params = s.params := by
  induction n with
  | zero => rfl
  | succ n ih => rw [Function.iterate_succ_apply', silentTick_params, ih]

/-- Fifteen zeros fill the line, and more leave it so. -/
theorem shiftLine_zero_iterate {n : Nat} (hn : 15 ≤ n) (d : DelayLine) : (shiftLine 0)^[n] d = DelayLine.zero := by
  obtain ⟨m, rfl⟩ := Nat.exists_eq_add_of_le' hn
  have hfill : (shiftLine 0)^[15] d = DelayLine.zero := rfl
  rw [Function.iterate_add_apply, hfill]
  exact Function.iterate_fixed rfl m

section
variable {s : State} (hair : SsbOnAir s)
include hair

/-! ### One silent tick -/

/-- The slow average loses magnitude on every silent tick (R101). -/
theorem silentTick_hpfDc_natAbs_le : (silentTick s).hpfDc.toInt.natAbs ≤ s.hpfDc.toInt.natAbs - 1 := by
  obtain ⟨hdc, -⟩ := transmitTick_of_ssb (s := beginEvent s) hair.mode_ssb 0
  have hstore : (silentTick s).hpfDc = store 16 (hpfAverage s.params 0 s.hpfDc.toInt) := by
    rw [silentTick, hdc, ssbTick_hpfDc]
    simp
  have hfits : fitsSigned 16 (hpfAverage s.params 0 s.hpfDc.toInt) = true := hpfAverage_fits s.params 0 s.hpfDc
  rw [hstore, store_toInt_of_fits (by decide) hfits]
  exact (slowAverageDecaysToZero s.params s.hpfDc.toInt).1

/-- Once the average is zero a silent tick shifts a zero in (R101, R102). -/
theorem silentTick_v_of_hpfDc (hdc : (silentTick s).hpfDc = 0) : (silentTick s).v = shiftLine 0 s.v := by
  obtain ⟨hdcEncoder, hv, -⟩ := transmitTick_of_ssb (s := beginEvent s) hair.mode_ssb 0
  have hshift : (silentTick s).v = shiftLine (store 18 (0 - (silentTick s).hpfDc.toInt)) s.v := by
    rw [silentTick, hv, ssbTick_v, hdcEncoder]
    simp
  rw [hshift, hdc]
  rfl

/-- A tick that leaves the zero line counts the gate down (R146). -/
theorem silentTick_gateCnt_of_line (hv : (silentTick s).v = DelayLine.zero) :
    (silentTick s).gateCnt.toNat = s.gateCnt.toNat - 1 := by
  have hgate : (silentTick s).gateCnt =
      gateNext s.params.hangMax (voxTrigger (lineAmplitude (silentTick s)) s.cfg.voxThr) s.gateCnt :=
    transmitTick_gateCnt_of_ssb (s := beginEvent s) hair.mode_ssb 0
  rw [hgate, lineAmplitude_of_zero hv, voxTrigger_zero, gateNext_silent]

/-- A tick that leaves the gate off leaves no amplitude pending and the observable off (R124, R150). -/
theorem silentTick_off_of_gate (hgate : (silentTick s).gateCnt = 0) :
    (silentTick s).pendAmp = 0 ∧ (silentTick s).carEn = false := by
  have hamp : (silentTick s).pendAmp = if gateOn (silentTick s).gateCnt then
      lutRead s.params (ampDrive (lineAmplitude (silentTick s)) s.cfg.drive) else 0 :=
    transmitTick_pendAmp_of_ssb (s := beginEvent s) hair.mode_ssb 0
  have hce : (silentTick s).carEn = ceNew (modeOfBits s.cfg.mode) (silentTick s).gateCnt := transmitTick_carEn _ _
  rw [hamp, hce, ceNew_of_ssb hair.mode_ssb, hgate]
  exact ⟨rfl, rfl⟩

/-- The remembered phase after a silent tick (R137, R139). -/
theorem silentTick_prevPhase_toInt :
    (silentTick s).prevPhase.toInt = prlPrev s.params s.cfg.bw (linePhase (silentTick s)) s.prevPhase.toInt := by
  have hP : (silentTick s).params.Admissible := hair.after_silentTick.inv.params_admissible
  have hprev : (silentTick s).prevPhase =
      store 32 (prlPrev s.params s.cfg.bw (linePhase (silentTick s)) s.prevPhase.toInt) :=
    transmitTick_prevPhase_of_ssb (s := beginEvent s) hair.mode_ssb 0
  rw [hprev, store_prlPrev_toInt _ _ (linePhase_fits hP)]

/-- A tick that leaves the zero line, with no phase owed before it, gives a delta of 0 (R140). -/
theorem silentTick_pendDf_of_line (hv : (silentTick s).v = DelayLine.zero) (hprev : s.prevPhase.toInt = 0) :
    (silentTick s).pendDf = 0 := by
  refine transmitTick_pendDf_of_ssb (s := beginEvent s) hair.mode_ssb 0 (df := 0) (by decide) ?_
  have hphase : linePhase (transmitTick 0 (beginEvent s)) = 0 := linePhase_of_zero hv
  rw [hphase, beginEvent_prevPhase, hprev, prlDelta_zero, prlFrequency_zero]

/-! ### Any number of silent ticks: the average, the line, the gate -/

theorem silence_hpfDc_natAbs_le (n : Nat) :
    (silentTick^[n] s).hpfDc.toInt.natAbs ≤ s.hpfDc.toInt.natAbs - n := by
  induction n with
  | zero => exact le_rfl
  | succ n ih =>
    have hstep := silentTick_hpfDc_natAbs_le (hair.after_silence n)
    rw [Function.iterate_succ_apply']
    omega

/-- A signed 16-bit average is gone after 2^15 silent ticks. -/
theorem silence_hpfDc {n : Nat} (hn : 32768 ≤ n) : (silentTick^[n] s).hpfDc = 0 := by
  have hrange := word16_toInt_mem s.hpfDc
  have hdecay := silence_hpfDc_natAbs_le hair n
  exact BitVec.eq_of_toInt_eq (Int.natAbs_eq_zero.mp (by omega))

/-- While the average is zero, silence shifts zeros in. -/
theorem silence_v_of_hpfDc (hdc : ∀ n, (silentTick^[n] s).hpfDc = 0) (n : Nat) :
    (silentTick^[n] s).v = (shiftLine 0)^[n] s.v := by
  induction n with
  | zero => rfl
  | succ n ih =>
    have hnext := hdc (n + 1)
    rw [Function.iterate_succ_apply'] at hnext
    rw [Function.iterate_succ_apply', Function.iterate_succ_apply', ← ih]
    exact silentTick_v_of_hpfDc (hair.after_silence n) hnext

theorem silence_v {n : Nat} (hn : 32783 ≤ n) : (silentTick^[n] s).v = DelayLine.zero := by
  obtain ⟨m, rfl⟩ := Nat.exists_eq_add_of_le' (show 32768 ≤ n by omega)
  have hdc (k : Nat) : (silentTick^[k] (silentTick^[32768] s)).hpfDc = 0 := by
    rw [← Function.iterate_add_apply]
    exact silence_hpfDc hair (Nat.le_add_left _ k)
  rw [Function.iterate_add_apply, silence_v_of_hpfDc (hair.after_silence _) hdc]
  exact shiftLine_zero_iterate (by omega) _

/-- While the line is zero, silence counts the gate down (R146). -/
theorem silence_gateCnt_of_line (hv : ∀ n, (silentTick^[n + 1] s).v = DelayLine.zero) (n : Nat) :
    (silentTick^[n] s).gateCnt.toNat = s.gateCnt.toNat - n := by
  induction n with
  | zero => rfl
  | succ n ih =>
    have hnext := hv n
    rw [Function.iterate_succ_apply'] at hnext ⊢
    rw [silentTick_gateCnt_of_line (hair.after_silence n) hnext, ih, Nat.sub_sub]

theorem silence_gateCnt {n : Nat} (hn : 32782 + s.params.hangMax ≤ n) : (silentTick^[n] s).gateCnt = 0 := by
  obtain ⟨m, rfl⟩ := Nat.exists_eq_add_of_le' (show 32782 ≤ n by omega)
  have hbound := (hair.after_silence 32782).inv.gate_bounded
  have hv (k : Nat) : (silentTick^[k + 1] (silentTick^[32782] s)).v = DelayLine.zero := by
    rw [← Function.iterate_add_apply]
    exact silence_v hair (by omega)
  have hcount := silence_gateCnt_of_line (hair.after_silence 32782) hv m
  rw [silence_params] at hbound
  rw [Function.iterate_add_apply]
  exact BitVec.eq_of_toNat_eq (hcount.trans (Nat.sub_eq_zero_of_le (by omega)))

theorem silence_off {n : Nat} (hn : 32782 + s.params.hangMax ≤ n) :
    (silentTick^[n] s).pendAmp = 0 ∧ (silentTick^[n] s).carEn = false := by
  obtain ⟨m, rfl⟩ := Nat.exists_eq_add_of_le' (show 1 ≤ n by omega)
  have hgate := silence_gateCnt hair hn
  rw [Function.iterate_succ_apply'] at hgate ⊢
  exact silentTick_off_of_gate (hair.after_silence m) hgate

/-- The amplitude output follows the pending amplitude one tick later (R186). -/
theorem silence_ampOut {n : Nat} (hn : 32783 + s.params.hangMax ≤ n) : (silentTick^[n] s).ampOut = 0 := by
  obtain ⟨m, rfl⟩ := Nat.exists_eq_add_of_le' (show 1 ≤ n by omega)
  obtain ⟨hamp, -⟩ := silence_off hair (n := m) (by omega)
  rw [Function.iterate_succ_apply', silentTick_ampOut, hamp]

end

/-- Settles O51: the average decays, then zeros fill the line, then the hang time runs out, then the output follows. -/
theorem silenceGoesQuiet : Obligations.SilenceGoesQuiet := by
  intro s n hs hfsm hmode hn
  have hair : SsbOnAir s := ⟨hs, hfsm, hmode⟩
  obtain ⟨hamp, hcar⟩ := silence_off hair (n := n) (by omega)
  exact ⟨_, execAll_silence hfsm n, silence_hpfDc hair (by omega),
    (delayLine_eq_zero_iff _).mp (silence_v hair (by omega)), silence_gateCnt hair (by omega), hamp,
    silence_ampOut hair (by omega), hcar⟩

/-! ### The residual (R138, R139, R141) -/

/-- Within the bounds of R138 a tick takes at most one circle off the remembered phase. -/
theorem sub_ua_le_prlPrev {P : Params} (hP : P.Admissible) (bw : Bandwidth) {phase prev : Int}
    (hlow : -(uaHalf P : Int) ≤ phase) (hhigh : phase ≤ uaHalf P) (hnowrap : -2 ^ 31 + 2 * (P.ua : Int) ≤ prev)
    (hprev : prev ≤ uaHalf P) : prev - P.ua ≤ prlPrev P bw phase prev := by
  have hdelta := prlDelta_nonneg bw hlow hprev
  rw [prlPrev_eq_add_delta hP bw hhigh hnowrap]
  split <;> omega

/-- As many circles as the line takes to empty do not reach from -2^29 to the wrap of R141. -/
theorem no_wrap_of_circles {P : Params} (hP : P.Admissible) {start prev : Int} {n : Nat} (hn : n ≤ 32783)
    (hstart : -2 ^ 29 ≤ start) (hprev : start - n * P.ua ≤ prev) : -2 ^ 31 + 2 * (P.ua : Int) ≤ prev := by
  obtain ⟨-, hua⟩ := hP.ua_range
  have hcircles : (n : Int) * P.ua ≤ 32783 * 32767 := by exact_mod_cast Nat.mul_le_mul hn hua
  omega

/-- At phase 0 what is owed is paid off at `MAX_DP` per tick. -/
theorem prlPrev_of_zero_phase (P : Params) (bw : Bandwidth) {prev : Int} (hmin : -2 ^ 31 ≤ prev) (hprev : prev ≤ 0) :
    prlPrev P bw 0 prev = min 0 (prev + maxDp P bw) := by
  have hnorm : prlNormalised P 0 prev = -prev := by
    rw [prlNormalised_eq, if_neg (by omega)]; ring
  rw [prlPrev, hnorm]
  split
  · next hclamped =>
    have hfits : fitsSigned 32 (0 - (-prev - maxDp P bw)) = true := by
      rw [fitsSigned, decide_eq_true_eq]; omega
    rw [wrapN_of_fits (by decide) hfits]
    omega
  · next hfree => omega

theorem maxDp_pos {P : Params} (hP : P.Admissible) (bw : Bandwidth) : 0 < maxDp P bw := by
  obtain ⟨hua, -⟩ := hP.ua_range
  cases bw with
  | full => exact Nat.lt_of_lt_of_le (by decide) hua
  | half => exact Nat.div_pos (le_trans (by decide) hua) (by decide)
  | quarter => exact Nat.div_pos (le_trans (by decide) hua) (by decide)

/-- The whole ticks of `MAX_DP` in what may be owed once the line is zero: what the state owes, and a circle for each tick until
then (R142). -/
def residualTicks (s : State) : Nat :=
  (s.prevPhase.toInt.natAbs + 32783 * s.params.ua) / maxDp s.params s.cfg.bw

section
variable {s : State} (hair : SsbOnAir s)
include hair

theorem linePhase_silentTick_mem :
    -(uaHalf s.params : Int) ≤ linePhase (silentTick s) ∧ linePhase (silentTick s) ≤ uaHalf s.params := by
  have hmem := arctan3_mem hair.after_silentTick.inv.params_admissible (quadrature (silentTick s).params (silentTick s).v)
    (inPhase (silentTick s).v)
  rw [linePhase]
  rwa [silentTick_params] at hmem ⊢

/-- Away from the wrap a tick leaves at most one circle more owed, and nothing paid in advance (R138, R139). -/
theorem silentTick_prevPhase_mem (hnowrap : -2 ^ 31 + 2 * (s.params.ua : Int) ≤ s.prevPhase.toInt)
    (hhalf : s.prevPhase.toInt ≤ uaHalf s.params) :
    s.prevPhase.toInt - s.params.ua ≤ (silentTick s).prevPhase.toInt ∧
      (silentTick s).prevPhase.toInt ≤ linePhase (silentTick s) := by
  have hP := hair.inv.params_admissible
  obtain ⟨hphaseLow, hphaseHigh⟩ := linePhase_silentTick_mem hair
  rw [silentTick_prevPhase_toInt hair]
  exact ⟨sub_ua_le_prlPrev hP _ hphaseLow hphaseHigh hnowrap hhalf, prlPrev_le_phase hP _ hphaseHigh hnowrap⟩

/-- A tick that leaves the zero line pays off `MAX_DP` of what is owed (R139). -/
theorem silentTick_prevPhase_of_line (hv : (silentTick s).v = DelayLine.zero) (hprev : s.prevPhase.toInt ≤ 0) :
    (silentTick s).prevPhase.toInt = min 0 (s.prevPhase.toInt + maxDp s.params s.cfg.bw) := by
  rw [silentTick_prevPhase_toInt hair, linePhase_of_zero hv]
  exact prlPrev_of_zero_phase _ _ s.prevPhase.le_toInt hprev

/-- While the line is zero, silence pays the residual off at `MAX_DP` per tick (R142). -/
theorem silence_prevPhase_of_line (hv : ∀ n, (silentTick^[n + 1] s).v = DelayLine.zero) (hprev : s.prevPhase.toInt ≤ 0)
    (n : Nat) : (silentTick^[n] s).prevPhase.toInt = min 0 (s.prevPhase.toInt + n * maxDp s.params s.cfg.bw) := by
  induction n with
  | zero => simp [hprev]
  | succ n ih =>
    have hnext := hv n
    rw [Function.iterate_succ_apply'] at hnext ⊢
    rw [silentTick_prevPhase_of_line (hair.after_silence n) hnext (ih ▸ min_le_left _ _), ih, silence_params, silence_cfg]
    push_cast
    rw [add_mul, one_mul]
    omega

section
variable (hstart : -2 ^ 29 ≤ s.prevPhase.toInt) (hhalf : s.prevPhase.toInt ≤ uaHalf s.params)
include hstart hhalf

/-- While the line empties, at most one circle more is owed for each tick. -/
theorem silence_prevPhase_mem {n : Nat} (hn : n ≤ 32783) :
    s.prevPhase.toInt - n * s.params.ua ≤ (silentTick^[n] s).prevPhase.toInt ∧
      (silentTick^[n] s).prevPhase.toInt ≤ uaHalf s.params := by
  induction n with
  | zero => exact ⟨by simp, hhalf⟩
  | succ n ih =>
    obtain ⟨hlow, hhigh⟩ := ih (by omega)
    have hnowrap := no_wrap_of_circles hair.inv.params_admissible (n := n) (by omega) hstart hlow
    have hstep := silentTick_prevPhase_mem (hair.after_silence n)
    have hphase := linePhase_silentTick_mem (hair.after_silence n)
    rw [silence_params] at hstep hphase
    obtain ⟨hmore, hpaid⟩ := hstep hnowrap hhigh
    rw [Function.iterate_succ_apply']
    exact ⟨by push_cast; linarith, hpaid.trans hphase.2⟩

/-- What is owed once the line is zero is at most what was owed at the start and one circle for each tick since (R142). -/
theorem silence_residual :
    -((s.prevPhase.toInt.natAbs + 32783 * s.params.ua : Nat) : Int) ≤ (silentTick^[32783] s).prevPhase.toInt ∧
      (silentTick^[32783] s).prevPhase.toInt ≤ 0 := by
  obtain ⟨hlow, -⟩ := silence_prevPhase_mem hair hstart hhalf le_rfl
  obtain ⟨hlast, hlastHalf⟩ := silence_prevPhase_mem hair hstart hhalf (n := 32782) (by decide)
  have hnowrap := no_wrap_of_circles hair.inv.params_admissible (n := 32782) (by decide) hstart hlast
  have hstep := silentTick_prevPhase_mem (hair.after_silence 32782)
  rw [silence_params] at hstep
  obtain ⟨-, hpaid⟩ := hstep hnowrap hlastHalf
  have hsucc : silentTick^[32783] s = silentTick (silentTick^[32782] s) := Function.iterate_succ_apply' silentTick 32782 s
  have hv := silence_v hair (n := 32783) le_rfl
  rw [← hsucc, linePhase_of_zero hv] at hpaid
  exact ⟨by push_cast at hlow ⊢; linarith [neg_abs_le s.prevPhase.toInt], hpaid⟩

/-- The residual is paid off within as many ticks as `MAX_DP` goes into it, and one more (R139). -/
theorem silence_prevPhase {n : Nat} (hn : 32784 + residualTicks s ≤ n) : (silentTick^[n] s).prevPhase.toInt = 0 := by
  obtain ⟨m, rfl⟩ := Nat.exists_eq_add_of_le' (show 32783 ≤ n by omega)
  obtain ⟨howed, hnonpos⟩ := silence_residual hair hstart hhalf
  have hv (k : Nat) : (silentTick^[k + 1] (silentTick^[32783] s)).v = DelayLine.zero := by
    rw [← Function.iterate_add_apply]
    exact silence_v hair (by omega)
  have hpaid := silence_prevPhase_of_line (hair.after_silence 32783) hv hnonpos m
  rw [silence_params, silence_cfg, ← Function.iterate_add_apply] at hpaid
  have hdp := maxDp_pos hair.inv.params_admissible s.cfg.bw
  have henough : s.prevPhase.toInt.natAbs + 32783 * s.params.ua ≤ m * maxDp s.params s.cfg.bw :=
    ((Nat.div_lt_iff_lt_mul hdp).mp (show residualTicks s < m by omega)).le
  rw [hpaid]
  refine min_eq_left ?_
  zify at henough
  push_cast at howed
  linarith

/-- One tick later the delta is 0 too. -/
theorem silence_pendDf {n : Nat} (hn : 32785 + residualTicks s ≤ n) : (silentTick^[n] s).pendDf = 0 := by
  obtain ⟨m, rfl⟩ := Nat.exists_eq_add_of_le' (show 1 ≤ n by omega)
  have hv := silence_v hair (n := m + 1) (by omega)
  have hprev := silence_prevPhase hair hstart hhalf (n := m) (by omega)
  rw [Function.iterate_succ_apply'] at hv ⊢
  exact silentTick_pendDf_of_line (hair.after_silence m) hv hprev

end

end

/-- Settles O58: with the transmitter quiet and the residual paid off the state is the steady one of O52. -/
theorem silenceReachesSteadyState : Obligations.SilenceReachesSteadyState := by
  intro s n hs hfsm hmode hstart hhalf hn
  have hair : SsbOnAir s := ⟨hs, hfsm, hmode⟩
  have hn : 32785 + s.params.hangMax + residualTicks s ≤ n := hn
  obtain ⟨t, hrun, hdc, hline, hgate, hamp, hout, hcar⟩ := silenceGoesQuiet s n hs hfsm hmode (by omega)
  obtain rfl : silentTick^[n] s = t := Host.Outcome.next.inj ((execAll_silence hfsm n).symm.trans hrun)
  have hdf := silence_pendDf hair hstart hhalf (n := n) (by omega)
  have hprev : (silentTick^[n] s).prevPhase = 0 :=
    BitVec.eq_of_toInt_eq (silence_prevPhase hair hstart hhalf (n := n) (by omega))
  obtain ⟨hinv, htfsm, htmode⟩ := hair.after_silence n
  have hregs : (silentTick^[n] s).synthRegs = regCalc (silentTick^[n] s).params 0 := by rw [hinv.regs_follow, hdf]
  have hsteady := silentSteadyState _ htfsm htmode hdc hline hprev hgate hcar hamp hout hdf hregs
  have hparams := silence_params s n
  exact ⟨_, hrun, hdf, hprev, hparams ▸ hregs, hout, hcar, hparams ▸ hsteady⟩

end Sys2Proof.Machine

namespace Sys2Proof.Machine

/-! ## R220: waiting for an event -/

/-- Settles O3: empty instants hold no next word, so the block waits (log entry 1). -/
theorem noEventChangesNoRegister : Obligations.NoEventChangesNoRegister := by
  intro s hempty
  have hnone : nextEvent s.inputs = none := nextEvent_eq_none hempty
  rw [step_of_nextEvent_none hnone, waitForEvent]

end Sys2Proof.Machine
